-- ==== Sys2Proof/Word.lean ====
section
/-! DEFINITION. The words the block moves, and the names it numbers (spec 00_scope.md R8, R11; 30_encoding.md R111). -/

namespace Sys2Proof

/-- 8 bits, the unit of both memories. -/
abbrev Byte := BitVec 8
/-- 32 bits, lane width W. -/
abbrev Word := BitVec 32
/-- 64 bits, the scalar result width and the width of a command. -/
abbrev Dword := BitVec 64
/-- 128 bits, one general or vector register, one transfer quadword. -/
abbrev Quad := BitVec 128

/-- A context number as a command can name it (30_encoding.md R111, field `ctx`). -/
abbrev Ctx := Fin 16
/-- A register number of any of the three files (30_encoding.md R115). -/
abbrev Reg := Fin 32
/-- A float lane: 0 = x, 1 = y, 2 = z, 3 = w (00_scope.md R11). -/
abbrev Lane := Fin 4
/-- A destination mask; bit i selects lane i (44_vu_arith.md R270). -/
abbrev Mask := BitVec 4

/-- The scratchpad's size in bytes (00_scope.md R9 `SPAD_SIZE`, 20_memory.md R83). -/
def spadSize : Nat := 16384

/-- What a read of vector register 0 yields: (0, 0, 0, 1.0) (10_state.md R28 `VF0_CONST`). -/
def vf0Const : Quad := 0x3F800000000000000000000000000000#128

end Sys2Proof
end

