-- ==== Sys2Proof/Config.lean ====
section
/-! DEFINITION. The parameters the spec leaves open (00_scope.md R9): those that are plain data are the structure
`Config`, held in the state and changed by no step; those that are functions, and every "any value" draw, are constants
without a body, so that nothing can be proved about their values. -/

namespace Sys2Proof

/-- What the block presents on the native-call port (11_interfaces.md R65). -/
structure NativeRequest where
  target : Word
  args   : Vector Dword 8
  zero   : Dword
  ctx0   : Dword
  ctx1   : Dword
deriving DecidableEq, Repr

/-- The open parameters of R9 that are plain data. A statement about every state holds for every value of them. -/
structure Config where
  /-- `NCTX` (D4). -/
  nctx      : Nat
  /-- `ARENA_SIZE` in bytes (D7). -/
  arenaSize : Nat
  /-- `NCALL_ARGS`: the eight argument registers in slot order (48_native_call.md R410, D25). -/
  ncallArgs : Vector Reg 8
  /-- `NCALL_RET` (R410). -/
  ncallRet  : Reg
  /-- `NCALL_CTX0` (R410). -/
  ncallCtx0 : Reg
  /-- `NCALL_CTX1` (R410). -/
  ncallCtx1 : Reg
deriving DecidableEq, Repr

/-- The values R9 allows: 1 ≤ NCTX ≤ 16; ARENA_SIZE a multiple of 16 from 16 to 2^32. -/
def Config.ok (p : Config) : Bool :=
  decide (1 ≤ p.nctx) && decide (p.nctx ≤ 16) && decide (p.arenaSize % 16 = 0) && decide (16 ≤ p.arenaSize) &&
    decide (p.arenaSize ≤ 2 ^ 32)

/-- The parameters of `State.reset`: those of the spec's own vectors (95_test_vectors.md conventions: NCTX = 4,
ARENA_SIZE = 0x10000) and the default registers of R410. DESIGN CHOICE, log entry 1: the spec leaves them open. -/
def Config.reference : Config :=
  { nctx := 4, arenaSize := 0x10000, ncallArgs := #v[4, 5, 6, 7, 8, 9, 10, 11],
    ncallRet := 2, ncallCtx0 := 22, ncallCtx1 := 23 }

/-- The free values ("any value", 00_scope.md R17): draw `n` (the state's counter) has one value for each slot. Log
entry 6. -/
opaque Config.free (n slot : Nat) : Quad

/-- `IDIV0`: what DIV and DIVU leave in (LO.d[0], HI.d[0]) where the quotient does not exist or does not fit; a function
of the kind of divide and the two words (43_scalar_muldiv.md R243, R244, D13). Log entry 9. -/
opaque Config.idiv0 (signed : Bool) (n d : Word) : Dword × Dword

/-- `RNG_STEP`: the generator's advance (45_vu_special.md R311, D14). Log entry 10. -/
opaque Config.rngStep (r : Word) : Word

/-- `RNG_MIX`: the generator's mix (45_vu_special.md R311, D14). Log entry 10. -/
opaque Config.rngMix (r v : Word) : Word

/-- The 64-bit answer of a native target that the environment has not fixed (48_native_call.md R411: any value). Log
entry 13. -/
opaque Config.nativeResult (n : Nat) (q : NativeRequest) (arena : List (Nat × Byte)) : Dword

/-- The bytes such a target stores into the arena, in order; every change of a finite arena is such a list (R411: every
arena byte any value). Log entry 13. -/
opaque Config.nativeStores (n : Nat) (q : NativeRequest) (arena : List (Nat × Byte)) : List (Nat × Byte)

end Sys2Proof
end

