-- ==== Sys2Proof/Syntax.lean ====
section
/-! DEFINITION. The command set: one constructor for each of the 144 rows of 30_encoding.md R118, its operands named as the
row's format names them (R112). Every operand has the type of its field, so only context numbers need a check
(WellFormed.lean). The four pseudo-instructions of R123 stand below as the commands they expand to. -/

namespace Sys2Proof

/-- A command of `MLRF-1`. `ctx` is the context it is against (10_state.md R21). -/
inductive Instr where
  -- unit 0x0 RF: register file: context and inter-file moves (40_regfile_ops.md)
  /-- NOP, R140. -/
  | nop (ctx : Ctx)
  /-- CTXINIT, R141. -/
  | ctxinit (ctx : Ctx)
  /-- VFCOPY, R142. -/
  | vfcopy (ctx sctx : Ctx)
  /-- MFC1, R143. -/
  | mfc1 (ctx : Ctx) (rd rs : Reg)
  /-- MTC1, R144. -/
  | mtc1 (ctx : Ctx) (rd rs : Reg)
  /-- QMFC2, R145. -/
  | qmfc2 (ctx : Ctx) (rd rs : Reg)
  /-- QMTC2, R146. -/
  | qmtc2 (ctx : Ctx) (rd rs : Reg)
  -- unit 0x1 SA: scalar ALU (41_scalar_alu.md)
  /-- ADDU, R161. -/
  | addu (ctx : Ctx) (rd rs rt : Reg)
  /-- SUBU, R162. -/
  | subu (ctx : Ctx) (rd rs rt : Reg)
  /-- DADDU, R163. -/
  | daddu (ctx : Ctx) (rd rs rt : Reg)
  /-- DSUBU, R164. -/
  | dsubu (ctx : Ctx) (rd rs rt : Reg)
  /-- ADDIU, R165. -/
  | addiu (ctx : Ctx) (rt rs : Reg) (imm : BitVec 16)
  /-- DADDIU, R166. -/
  | daddiu (ctx : Ctx) (rt rs : Reg) (imm : BitVec 16)
  /-- AND, R167. -/
  | and (ctx : Ctx) (rd rs rt : Reg)
  /-- OR, R168. -/
  | or (ctx : Ctx) (rd rs rt : Reg)
  /-- XOR, R169. -/
  | xor (ctx : Ctx) (rd rs rt : Reg)
  /-- NOR, R170. -/
  | nor (ctx : Ctx) (rd rs rt : Reg)
  /-- ANDI, R171. -/
  | andi (ctx : Ctx) (rt rs : Reg) (imm : BitVec 16)
  /-- ORI, R172. -/
  | ori (ctx : Ctx) (rt rs : Reg) (imm : BitVec 16)
  /-- XORI, R173. -/
  | xori (ctx : Ctx) (rt rs : Reg) (imm : BitVec 16)
  /-- LUI, R174. -/
  | lui (ctx : Ctx) (rt : Reg) (imm : BitVec 16)
  /-- SLL, R175. -/
  | sll (ctx : Ctx) (rd rt : Reg) (sa : Fin 32)
  /-- SRL, R176. -/
  | srl (ctx : Ctx) (rd rt : Reg) (sa : Fin 32)
  /-- SRA, R177. -/
  | sra (ctx : Ctx) (rd rt : Reg) (sa : Fin 32)
  /-- SLLV, R178. -/
  | sllv (ctx : Ctx) (rd rs rt : Reg)
  /-- SRLV, R179. -/
  | srlv (ctx : Ctx) (rd rs rt : Reg)
  /-- SRAV, R180. -/
  | srav (ctx : Ctx) (rd rs rt : Reg)
  /-- DSLL, R181. -/
  | dsll (ctx : Ctx) (rd rt : Reg) (sa : Fin 64)
  /-- DSRL, R182. -/
  | dsrl (ctx : Ctx) (rd rt : Reg) (sa : Fin 64)
  /-- DSRA, R183. -/
  | dsra (ctx : Ctx) (rd rt : Reg) (sa : Fin 64)
  /-- DSLLV, R184. -/
  | dsllv (ctx : Ctx) (rd rs rt : Reg)
  /-- DSRLV, R185. -/
  | dsrlv (ctx : Ctx) (rd rs rt : Reg)
  /-- DSRAV, R186. -/
  | dsrav (ctx : Ctx) (rd rs rt : Reg)
  /-- SLT, R187. -/
  | slt (ctx : Ctx) (rd rs rt : Reg)
  /-- SLTU, R188. -/
  | sltu (ctx : Ctx) (rd rs rt : Reg)
  /-- SLTI, R189. -/
  | slti (ctx : Ctx) (rt rs : Reg) (imm : BitVec 16)
  /-- SLTIU, R190. -/
  | sltiu (ctx : Ctx) (rt rs : Reg) (imm : BitVec 16)
  /-- MOVN, R191. -/
  | movn (ctx : Ctx) (rd rs rt : Reg)
  /-- MOVZ, R192. -/
  | movz (ctx : Ctx) (rd rs rt : Reg)
  -- unit 0x2 SM: loads and stores (42_scalar_mem.md)
  /-- LB, R203. -/
  | lb (ctx : Ctx) (rt base : Reg) (off : BitVec 16)
  /-- LBU, R204. -/
  | lbu (ctx : Ctx) (rt base : Reg) (off : BitVec 16)
  /-- LH, R205. -/
  | lh (ctx : Ctx) (rt base : Reg) (off : BitVec 16)
  /-- LHU, R206. -/
  | lhu (ctx : Ctx) (rt base : Reg) (off : BitVec 16)
  /-- LW, R207. -/
  | lw (ctx : Ctx) (rt base : Reg) (off : BitVec 16)
  /-- LD, R208. -/
  | ld (ctx : Ctx) (rt base : Reg) (off : BitVec 16)
  /-- LQ, R209. -/
  | lq (ctx : Ctx) (rt base : Reg) (off : BitVec 16)
  /-- LWL, R210. -/
  | lwl (ctx : Ctx) (rt base : Reg) (off : BitVec 16)
  /-- LWR, R211. -/
  | lwr (ctx : Ctx) (rt base : Reg) (off : BitVec 16)
  /-- LDL, R212. -/
  | ldl (ctx : Ctx) (rt base : Reg) (off : BitVec 16)
  /-- LDR, R213. -/
  | ldr (ctx : Ctx) (rt base : Reg) (off : BitVec 16)
  /-- SB, R214. -/
  | sb (ctx : Ctx) (rt base : Reg) (off : BitVec 16)
  /-- SH, R215. -/
  | sh (ctx : Ctx) (rt base : Reg) (off : BitVec 16)
  /-- SW, R216. -/
  | sw (ctx : Ctx) (rt base : Reg) (off : BitVec 16)
  /-- SD, R217. -/
  | sd (ctx : Ctx) (rt base : Reg) (off : BitVec 16)
  /-- SQ, R218. -/
  | sq (ctx : Ctx) (rt base : Reg) (off : BitVec 16)
  /-- LWC1, R219. -/
  | lwc1 (ctx : Ctx) (rt base : Reg) (off : BitVec 16)
  /-- SWC1, R220. -/
  | swc1 (ctx : Ctx) (rt base : Reg) (off : BitVec 16)
  /-- LQC2, R221. -/
  | lqc2 (ctx : Ctx) (rt base : Reg) (off : BitVec 16)
  /-- SQC2, R222. -/
  | sqc2 (ctx : Ctx) (rt base : Reg) (off : BitVec 16)
  -- unit 0x3 MD: multiply, divide and the HI/LO pair (43_scalar_muldiv.md)
  /-- MULT, R241. -/
  | mult (ctx : Ctx) (rd rs rt : Reg)
  /-- MULTU, R242. -/
  | multu (ctx : Ctx) (rd rs rt : Reg)
  /-- DIV, R243. -/
  | div (ctx : Ctx) (rs rt : Reg)
  /-- DIVU, R244. -/
  | divu (ctx : Ctx) (rs rt : Reg)
  /-- MFHI, R245. -/
  | mfhi (ctx : Ctx) (rd : Reg)
  /-- MFLO, R246. -/
  | mflo (ctx : Ctx) (rd : Reg)
  /-- MTHI, R247. -/
  | mthi (ctx : Ctx) (rs : Reg)
  /-- MTLO, R248. -/
  | mtlo (ctx : Ctx) (rs : Reg)
  /-- PMFHI, R249. -/
  | pmfhi (ctx : Ctx) (rd : Reg)
  /-- PMFLO, R250. -/
  | pmflo (ctx : Ctx) (rd : Reg)
  /-- PMTHI, R251. -/
  | pmthi (ctx : Ctx) (rs : Reg)
  /-- PMTLO, R252. -/
  | pmtlo (ctx : Ctx) (rs : Reg)
  /-- PMULTH, R253. -/
  | pmulth (ctx : Ctx) (rd rs rt : Reg)
  /-- PMADDH, R254. -/
  | pmaddh (ctx : Ctx) (rd rs rt : Reg)
  -- unit 0x4 VA: vector arithmetic and accumulator chain (44_vu_arith.md)
  /-- VADD, R275. -/
  | vadd (ctx : Ctx) (fd fs ft : Reg) (dest : Mask)
  /-- VADD_BC, R276. -/
  | vaddBc (ctx : Ctx) (fd fs ft : Reg) (dest : Mask) (bc : Lane)
  /-- VSUB, R277. -/
  | vsub (ctx : Ctx) (fd fs ft : Reg) (dest : Mask)
  /-- VSUB_BC, R278. -/
  | vsubBc (ctx : Ctx) (fd fs ft : Reg) (dest : Mask) (bc : Lane)
  /-- VMUL, R279. -/
  | vmul (ctx : Ctx) (fd fs ft : Reg) (dest : Mask)
  /-- VMUL_BC, R280. -/
  | vmulBc (ctx : Ctx) (fd fs ft : Reg) (dest : Mask) (bc : Lane)
  /-- VMULA, R281. -/
  | vmula (ctx : Ctx) (fs ft : Reg) (dest : Mask)
  /-- VMULA_BC, R282. -/
  | vmulaBc (ctx : Ctx) (fs ft : Reg) (dest : Mask) (bc : Lane)
  /-- VMADDA, R283. -/
  | vmadda (ctx : Ctx) (fs ft : Reg) (dest : Mask)
  /-- VMADDA_BC, R284. -/
  | vmaddaBc (ctx : Ctx) (fs ft : Reg) (dest : Mask) (bc : Lane)
  /-- VMSUBA, R285. -/
  | vmsuba (ctx : Ctx) (fs ft : Reg) (dest : Mask)
  /-- VMSUBA_BC, R286. -/
  | vmsubaBc (ctx : Ctx) (fs ft : Reg) (dest : Mask) (bc : Lane)
  /-- VMADD, R287. -/
  | vmadd (ctx : Ctx) (fd fs ft : Reg) (dest : Mask)
  /-- VMADD_BC, R288. -/
  | vmaddBc (ctx : Ctx) (fd fs ft : Reg) (dest : Mask) (bc : Lane)
  /-- VMSUB, R289. -/
  | vmsub (ctx : Ctx) (fd fs ft : Reg) (dest : Mask)
  /-- VMSUB_BC, R290. -/
  | vmsubBc (ctx : Ctx) (fd fs ft : Reg) (dest : Mask) (bc : Lane)
  /-- VADDQ, R291. -/
  | vaddq (ctx : Ctx) (fd fs : Reg) (dest : Mask)
  /-- VSUBQ, R292. -/
  | vsubq (ctx : Ctx) (fd fs : Reg) (dest : Mask)
  /-- VMULQ, R293. -/
  | vmulq (ctx : Ctx) (fd fs : Reg) (dest : Mask)
  /-- VADDI, R294. -/
  | vaddi (ctx : Ctx) (fd fs : Reg) (dest : Mask)
  /-- VSUBI, R295. -/
  | vsubi (ctx : Ctx) (fd fs : Reg) (dest : Mask)
  /-- VMULI, R296. -/
  | vmuli (ctx : Ctx) (fd fs : Reg) (dest : Mask)
  -- unit 0x5 VS: vector divide, roots, random, conversion (45_vu_special.md)
  /-- VDIV, R312. -/
  | vdiv (ctx : Ctx) (fs ft : Reg) (fsf ftf : Lane)
  /-- VSQRT, R313. -/
  | vsqrt (ctx : Ctx) (ft : Reg) (ftf : Lane)
  /-- VRSQRT, R314. -/
  | vrsqrt (ctx : Ctx) (fs ft : Reg) (fsf ftf : Lane)
  /-- VRGET, R315. -/
  | vrget (ctx : Ctx) (fd : Reg) (dest : Mask)
  /-- VRNEXT, R316. -/
  | vrnext (ctx : Ctx) (fd : Reg) (dest : Mask)
  /-- VRXOR, R317. -/
  | vrxor (ctx : Ctx) (fs : Reg) (fsf : Lane)
  /-- VITOF0, R318. -/
  | vitof0 (ctx : Ctx) (fd fs : Reg) (dest : Mask)
  /-- VITOF12, R319. -/
  | vitof12 (ctx : Ctx) (fd fs : Reg) (dest : Mask)
  /-- VITOF15, R320. -/
  | vitof15 (ctx : Ctx) (fd fs : Reg) (dest : Mask)
  /-- VFTOI0, R321. -/
  | vftoi0 (ctx : Ctx) (fd fs : Reg) (dest : Mask)
  /-- VFTOI4, R322. -/
  | vftoi4 (ctx : Ctx) (fd fs : Reg) (dest : Mask)
  /-- VFTOI12, R323. -/
  | vftoi12 (ctx : Ctx) (fd fs : Reg) (dest : Mask)
  -- unit 0x6 PI: packed integer (46_packed_int.md)
  /-- PEXTLB, R343. -/
  | pextlb (ctx : Ctx) (rd rs rt : Reg)
  /-- PEXTLH, R344. -/
  | pextlh (ctx : Ctx) (rd rs rt : Reg)
  /-- PEXTLW, R345. -/
  | pextlw (ctx : Ctx) (rd rs rt : Reg)
  /-- PEXTUB, R346. -/
  | pextub (ctx : Ctx) (rd rs rt : Reg)
  /-- PEXTUH, R347. -/
  | pextuh (ctx : Ctx) (rd rs rt : Reg)
  /-- PEXTUW, R348. -/
  | pextuw (ctx : Ctx) (rd rs rt : Reg)
  /-- PPACB, R349. -/
  | ppacb (ctx : Ctx) (rd rs rt : Reg)
  /-- PPACH, R350. -/
  | ppach (ctx : Ctx) (rd rs rt : Reg)
  /-- PPACW, R351. -/
  | ppacw (ctx : Ctx) (rd rs rt : Reg)
  /-- PADDB, R352. -/
  | paddb (ctx : Ctx) (rd rs rt : Reg)
  /-- PADDH, R353. -/
  | paddh (ctx : Ctx) (rd rs rt : Reg)
  /-- PADDW, R354. -/
  | paddw (ctx : Ctx) (rd rs rt : Reg)
  /-- PSUBB, R355. -/
  | psubb (ctx : Ctx) (rd rs rt : Reg)
  /-- PSUBH, R356. -/
  | psubh (ctx : Ctx) (rd rs rt : Reg)
  /-- PSUBW, R357. -/
  | psubw (ctx : Ctx) (rd rs rt : Reg)
  /-- PCEQB, R358. -/
  | pceqb (ctx : Ctx) (rd rs rt : Reg)
  /-- PCEQH, R359. -/
  | pceqh (ctx : Ctx) (rd rs rt : Reg)
  /-- PCEQW, R360. -/
  | pceqw (ctx : Ctx) (rd rs rt : Reg)
  /-- PCGTB, R361. -/
  | pcgtb (ctx : Ctx) (rd rs rt : Reg)
  /-- PCGTH, R362. -/
  | pcgth (ctx : Ctx) (rd rs rt : Reg)
  /-- PCGTW, R363. -/
  | pcgtw (ctx : Ctx) (rd rs rt : Reg)
  /-- PMAXH, R364. -/
  | pmaxh (ctx : Ctx) (rd rs rt : Reg)
  /-- PMAXW, R365. -/
  | pmaxw (ctx : Ctx) (rd rs rt : Reg)
  /-- PMINH, R366. -/
  | pminh (ctx : Ctx) (rd rs rt : Reg)
  /-- PMINW, R367. -/
  | pminw (ctx : Ctx) (rd rs rt : Reg)
  /-- PSLLH, R368. -/
  | psllh (ctx : Ctx) (rd rt : Reg) (sa : Fin 16)
  /-- PSRLH, R369. -/
  | psrlh (ctx : Ctx) (rd rt : Reg) (sa : Fin 16)
  /-- PSRAH, R370. -/
  | psrah (ctx : Ctx) (rd rt : Reg) (sa : Fin 16)
  /-- PSLLW, R371. -/
  | psllw (ctx : Ctx) (rd rt : Reg) (sa : Fin 32)
  /-- PSRLW, R372. -/
  | psrlw (ctx : Ctx) (rd rt : Reg) (sa : Fin 32)
  /-- PSRAW, R373. -/
  | psraw (ctx : Ctx) (rd rt : Reg) (sa : Fin 32)
  /-- PLZCW, R374. -/
  | plzcw (ctx : Ctx) (rd rs : Reg)
  -- unit 0x7 DM: DMA and scratchpad (47_dma.md)
  /-- DMA_TOSPR, R393. -/
  | dmaTospr (ctx : Ctx) (rq rm rsp : Reg)
  /-- DMA_FROMSPR, R394. -/
  | dmaFromspr (ctx : Ctx) (rq rm rsp : Reg)
  /-- DMA_TOSPR_IL, R395. -/
  | dmaTosprIl (ctx : Ctx) (rq rm rsp : Reg)
  /-- DMA_FROMSPR_IL, R396. -/
  | dmaFromsprIl (ctx : Ctx) (rq rm rsp : Reg)
  -- unit 0x8 NC: native call (48_native_call.md)
  /-- NCALL, R411. -/
  | ncall (ctx : Ctx) (rs : Reg)
deriving DecidableEq, Repr

/-- The context a command is against. -/
def Instr.ctx : Instr → Ctx
  | .nop c => c
  | .ctxinit c => c
  | .vfcopy c _ => c
  | .mfc1 c _ _ => c
  | .mtc1 c _ _ => c
  | .qmfc2 c _ _ => c
  | .qmtc2 c _ _ => c
  | .addu c _ _ _ => c
  | .subu c _ _ _ => c
  | .daddu c _ _ _ => c
  | .dsubu c _ _ _ => c
  | .addiu c _ _ _ => c
  | .daddiu c _ _ _ => c
  | .and c _ _ _ => c
  | .or c _ _ _ => c
  | .xor c _ _ _ => c
  | .nor c _ _ _ => c
  | .andi c _ _ _ => c
  | .ori c _ _ _ => c
  | .xori c _ _ _ => c
  | .lui c _ _ => c
  | .sll c _ _ _ => c
  | .srl c _ _ _ => c
  | .sra c _ _ _ => c
  | .sllv c _ _ _ => c
  | .srlv c _ _ _ => c
  | .srav c _ _ _ => c
  | .dsll c _ _ _ => c
  | .dsrl c _ _ _ => c
  | .dsra c _ _ _ => c
  | .dsllv c _ _ _ => c
  | .dsrlv c _ _ _ => c
  | .dsrav c _ _ _ => c
  | .slt c _ _ _ => c
  | .sltu c _ _ _ => c
  | .slti c _ _ _ => c
  | .sltiu c _ _ _ => c
  | .movn c _ _ _ => c
  | .movz c _ _ _ => c
  | .lb c _ _ _ => c
  | .lbu c _ _ _ => c
  | .lh c _ _ _ => c
  | .lhu c _ _ _ => c
  | .lw c _ _ _ => c
  | .ld c _ _ _ => c
  | .lq c _ _ _ => c
  | .lwl c _ _ _ => c
  | .lwr c _ _ _ => c
  | .ldl c _ _ _ => c
  | .ldr c _ _ _ => c
  | .sb c _ _ _ => c
  | .sh c _ _ _ => c
  | .sw c _ _ _ => c
  | .sd c _ _ _ => c
  | .sq c _ _ _ => c
  | .lwc1 c _ _ _ => c
  | .swc1 c _ _ _ => c
  | .lqc2 c _ _ _ => c
  | .sqc2 c _ _ _ => c
  | .mult c _ _ _ => c
  | .multu c _ _ _ => c
  | .div c _ _ => c
  | .divu c _ _ => c
  | .mfhi c _ => c
  | .mflo c _ => c
  | .mthi c _ => c
  | .mtlo c _ => c
  | .pmfhi c _ => c
  | .pmflo c _ => c
  | .pmthi c _ => c
  | .pmtlo c _ => c
  | .pmulth c _ _ _ => c
  | .pmaddh c _ _ _ => c
  | .vadd c _ _ _ _ => c
  | .vaddBc c _ _ _ _ _ => c
  | .vsub c _ _ _ _ => c
  | .vsubBc c _ _ _ _ _ => c
  | .vmul c _ _ _ _ => c
  | .vmulBc c _ _ _ _ _ => c
  | .vmula c _ _ _ => c
  | .vmulaBc c _ _ _ _ => c
  | .vmadda c _ _ _ => c
  | .vmaddaBc c _ _ _ _ => c
  | .vmsuba c _ _ _ => c
  | .vmsubaBc c _ _ _ _ => c
  | .vmadd c _ _ _ _ => c
  | .vmaddBc c _ _ _ _ _ => c
  | .vmsub c _ _ _ _ => c
  | .vmsubBc c _ _ _ _ _ => c
  | .vaddq c _ _ _ => c
  | .vsubq c _ _ _ => c
  | .vmulq c _ _ _ => c
  | .vaddi c _ _ _ => c
  | .vsubi c _ _ _ => c
  | .vmuli c _ _ _ => c
  | .vdiv c _ _ _ _ => c
  | .vsqrt c _ _ => c
  | .vrsqrt c _ _ _ _ => c
  | .vrget c _ _ => c
  | .vrnext c _ _ => c
  | .vrxor c _ _ => c
  | .vitof0 c _ _ _ => c
  | .vitof12 c _ _ _ => c
  | .vitof15 c _ _ _ => c
  | .vftoi0 c _ _ _ => c
  | .vftoi4 c _ _ _ => c
  | .vftoi12 c _ _ _ => c
  | .pextlb c _ _ _ => c
  | .pextlh c _ _ _ => c
  | .pextlw c _ _ _ => c
  | .pextub c _ _ _ => c
  | .pextuh c _ _ _ => c
  | .pextuw c _ _ _ => c
  | .ppacb c _ _ _ => c
  | .ppach c _ _ _ => c
  | .ppacw c _ _ _ => c
  | .paddb c _ _ _ => c
  | .paddh c _ _ _ => c
  | .paddw c _ _ _ => c
  | .psubb c _ _ _ => c
  | .psubh c _ _ _ => c
  | .psubw c _ _ _ => c
  | .pceqb c _ _ _ => c
  | .pceqh c _ _ _ => c
  | .pceqw c _ _ _ => c
  | .pcgtb c _ _ _ => c
  | .pcgth c _ _ _ => c
  | .pcgtw c _ _ _ => c
  | .pmaxh c _ _ _ => c
  | .pmaxw c _ _ _ => c
  | .pminh c _ _ _ => c
  | .pminw c _ _ _ => c
  | .psllh c _ _ _ => c
  | .psrlh c _ _ _ => c
  | .psrah c _ _ _ => c
  | .psllw c _ _ _ => c
  | .psrlw c _ _ _ => c
  | .psraw c _ _ _ => c
  | .plzcw c _ _ => c
  | .dmaTospr c _ _ _ => c
  | .dmaFromspr c _ _ _ => c
  | .dmaTosprIl c _ _ _ => c
  | .dmaFromsprIl c _ _ _ => c
  | .ncall c _ => c

/-- `MOVE rd, rs` (R123). -/
def Instr.move (ctx : Ctx) (rd rs : Reg) : Instr := .or ctx rd rs 0

/-- `LI rt, imm` (R123). -/
def Instr.li (ctx : Ctx) (rt : Reg) (imm : BitVec 16) : Instr := .addiu ctx rt 0 imm

/-- `SEXT32 rd, rt` (R123). -/
def Instr.sext32 (ctx : Ctx) (rd rt : Reg) : Instr := .sll ctx rd rt 0

/-- `NEGU rd, rt` (R123). -/
def Instr.negu (ctx : Ctx) (rd rt : Reg) : Instr := .subu ctx rd 0 rt

end Sys2Proof
end

