-- ==== Sys2Proof/WellFormed.lean ====
section
/-! DEFINITION. The one thing about a command that its syntax does not already say: its context numbers exist
(30_encoding.md R114 step 3). -/

namespace Sys2Proof

/-- The second context a command names: VFCOPY's source. -/
def Instr.sctx? : Instr → Option Ctx
  | .vfcopy _ sctx => some sctx
  | _ => none

/-- Every context number the command names is below `NCTX` (30_encoding.md R114, R115). -/
def Instr.wf (nctx : Nat) (i : Instr) : Bool :=
  decide (i.ctx.val < nctx) && i.sctx?.all (fun c => decide (c.val < nctx))

end Sys2Proof
end

