-- ==== Sys2Proof/Decode.lean ====
section
/-! DEFINITION. The 64-bit command word (30_encoding.md): its fields (R111), the formats and their masks (R112), the total
decoder (R114) and, after it, the encoder (R124). -/

namespace Sys2Proof

/-- The formats of R112. -/
inductive Format where
  | Z | C | R3 | R2B | RDO | RSO | RST | RI | LI | SH4 | SH5 | SH6 | M
  | V3 | V3B | VA | VAB | V2 | VQ | VQ1 | VR | VX | D | N
deriving DecidableEq, Repr

/-- The fixed-bit mask of a format (R112): the bits a decoder compares. -/
def Format.mask : Format → Dword
  | .Z => 0xFFF0FFFFFFFFFFFF#64
  | .C => 0xFFF087FFFFFFFFFF#64
  | .R3 => 0xFFF00001FFFFFFFF#64
  | .R2B => 0xFFF0003FFFFFFFFF#64
  | .RDO => 0xFFF007FFFFFFFFFF#64
  | .RSO => 0xFFF0F83FFFFFFFFF#64
  | .RST => 0xFFF0F801FFFFFFFF#64
  | .RI => 0xFFF0003FFFFF0000#64
  | .LI => 0xFFF007FFFFFF0000#64
  | .SH4 => 0xFFF007C1FFF0FFFF#64
  | .SH5 => 0xFFF007C1FFE0FFFF#64
  | .SH6 => 0xFFF007C1FFC0FFFF#64
  | .M => 0xFFF0003FFFFF0000#64
  | .V3 => 0xFFF000001FFFFFFF#64
  | .V3B => 0xFFF0000007FFFFFF#64
  | .VA => 0xFFF0F8001FFFFFFF#64
  | .VAB => 0xFFF0F80007FFFFFF#64
  | .V2 => 0xFFF0003E1FFFFFFF#64
  | .VQ => 0xFFF0F801F87FFFFF#64
  | .VQ1 => 0xFFF0FFC1FE7FFFFF#64
  | .VR => 0xFFF007FE1FFFFFFF#64
  | .VX => 0xFFF0F83FF9FFFFFF#64
  | .D => 0xFFF00001FFFFFFFF#64
  | .N => 0xFFF0F83FFFFFFFFF#64

/-- The fields of a command word (R111). -/
structure Fields where
  unit : BitVec 4
  fn : BitVec 8
  ctx : BitVec 4
  a : BitVec 5
  b : BitVec 5
  c : BitVec 5
  dest : BitVec 4
  bc : BitVec 2
  fsf : BitVec 2
  ftf : BitVec 2
  rsv : BitVec 1
  sa : BitVec 6
  imm16 : BitVec 16
deriving DecidableEq, Repr

/-- The fields read from a word (R111). -/
def Fields.ofWord (w : Dword) : Fields :=
  { unit := w.extractLsb' 60 4,
    fn := w.extractLsb' 52 8,
    ctx := w.extractLsb' 48 4,
    a := w.extractLsb' 43 5,
    b := w.extractLsb' 38 5,
    c := w.extractLsb' 33 5,
    dest := w.extractLsb' 29 4,
    bc := w.extractLsb' 27 2,
    fsf := w.extractLsb' 25 2,
    ftf := w.extractLsb' 23 2,
    rsv := w.extractLsb' 22 1,
    sa := w.extractLsb' 16 6,
    imm16 := w.extractLsb' 0 16 }

/-- `match` of a row: `unit << 60 | fn << 52` (R118). -/
def opcodeBits (unit : BitVec 4) (fn : BitVec 8) : Dword :=
  unit.setWidth 64 <<< 60 ||| fn.setWidth 64 <<< 52

/-- Why a word is no command (R114, R119). -/
inductive DecodeReject where
  /-- No row has the word's `unit` and `fn` (R114 step 1). -/
  | unassigned
  /-- A bit the format does not use is 1 (R114 step 2, R117). -/
  | reservedBit
  /-- A context number is not below `NCTX` (R114 step 3). -/
  | noContext
deriving DecidableEq, Repr

/-- The rows of unit 0x0 RF (R118): format and command, the operands in the slots R112 gives them. -/
def rowOfRF (f : Fields) : Option (Format × Instr) :=
  match f.fn.toNat with
  | 0x01 => some (.Z, .nop f.ctx.toFin)
  | 0x02 => some (.Z, .ctxinit f.ctx.toFin)
  | 0x03 => some (.C, .vfcopy f.ctx.toFin (f.a.setWidth 4).toFin)
  | 0x04 => some (.R2B, .mfc1 f.ctx.toFin f.a.toFin f.b.toFin)
  | 0x05 => some (.R2B, .mtc1 f.ctx.toFin f.a.toFin f.b.toFin)
  | 0x06 => some (.R2B, .qmfc2 f.ctx.toFin f.a.toFin f.b.toFin)
  | 0x07 => some (.R2B, .qmtc2 f.ctx.toFin f.a.toFin f.b.toFin)
  | _ => none

/-- The rows of unit 0x1 SA (R118): format and command, the operands in the slots R112 gives them. -/
def rowOfSA (f : Fields) : Option (Format × Instr) :=
  match f.fn.toNat with
  | 0x01 => some (.R3, .addu f.ctx.toFin f.a.toFin f.b.toFin f.c.toFin)
  | 0x02 => some (.R3, .subu f.ctx.toFin f.a.toFin f.b.toFin f.c.toFin)
  | 0x03 => some (.R3, .daddu f.ctx.toFin f.a.toFin f.b.toFin f.c.toFin)
  | 0x04 => some (.R3, .dsubu f.ctx.toFin f.a.toFin f.b.toFin f.c.toFin)
  | 0x05 => some (.RI, .addiu f.ctx.toFin f.a.toFin f.b.toFin f.imm16)
  | 0x06 => some (.RI, .daddiu f.ctx.toFin f.a.toFin f.b.toFin f.imm16)
  | 0x07 => some (.R3, .and f.ctx.toFin f.a.toFin f.b.toFin f.c.toFin)
  | 0x08 => some (.R3, .or f.ctx.toFin f.a.toFin f.b.toFin f.c.toFin)
  | 0x09 => some (.R3, .xor f.ctx.toFin f.a.toFin f.b.toFin f.c.toFin)
  | 0x0A => some (.R3, .nor f.ctx.toFin f.a.toFin f.b.toFin f.c.toFin)
  | 0x0B => some (.RI, .andi f.ctx.toFin f.a.toFin f.b.toFin f.imm16)
  | 0x0C => some (.RI, .ori f.ctx.toFin f.a.toFin f.b.toFin f.imm16)
  | 0x0D => some (.RI, .xori f.ctx.toFin f.a.toFin f.b.toFin f.imm16)
  | 0x0E => some (.LI, .lui f.ctx.toFin f.a.toFin f.imm16)
  | 0x0F => some (.SH5, .sll f.ctx.toFin f.a.toFin f.c.toFin (f.sa.setWidth 5).toFin)
  | 0x10 => some (.SH5, .srl f.ctx.toFin f.a.toFin f.c.toFin (f.sa.setWidth 5).toFin)
  | 0x11 => some (.SH5, .sra f.ctx.toFin f.a.toFin f.c.toFin (f.sa.setWidth 5).toFin)
  | 0x12 => some (.R3, .sllv f.ctx.toFin f.a.toFin f.b.toFin f.c.toFin)
  | 0x13 => some (.R3, .srlv f.ctx.toFin f.a.toFin f.b.toFin f.c.toFin)
  | 0x14 => some (.R3, .srav f.ctx.toFin f.a.toFin f.b.toFin f.c.toFin)
  | 0x15 => some (.SH6, .dsll f.ctx.toFin f.a.toFin f.c.toFin f.sa.toFin)
  | 0x16 => some (.SH6, .dsrl f.ctx.toFin f.a.toFin f.c.toFin f.sa.toFin)
  | 0x17 => some (.SH6, .dsra f.ctx.toFin f.a.toFin f.c.toFin f.sa.toFin)
  | 0x18 => some (.R3, .dsllv f.ctx.toFin f.a.toFin f.b.toFin f.c.toFin)
  | 0x19 => some (.R3, .dsrlv f.ctx.toFin f.a.toFin f.b.toFin f.c.toFin)
  | 0x1A => some (.R3, .dsrav f.ctx.toFin f.a.toFin f.b.toFin f.c.toFin)
  | 0x1B => some (.R3, .slt f.ctx.toFin f.a.toFin f.b.toFin f.c.toFin)
  | 0x1C => some (.R3, .sltu f.ctx.toFin f.a.toFin f.b.toFin f.c.toFin)
  | 0x1D => some (.RI, .slti f.ctx.toFin f.a.toFin f.b.toFin f.imm16)
  | 0x1E => some (.RI, .sltiu f.ctx.toFin f.a.toFin f.b.toFin f.imm16)
  | 0x1F => some (.R3, .movn f.ctx.toFin f.a.toFin f.b.toFin f.c.toFin)
  | 0x20 => some (.R3, .movz f.ctx.toFin f.a.toFin f.b.toFin f.c.toFin)
  | _ => none

/-- The rows of unit 0x2 SM (R118): format and command, the operands in the slots R112 gives them. -/
def rowOfSM (f : Fields) : Option (Format × Instr) :=
  match f.fn.toNat with
  | 0x01 => some (.M, .lb f.ctx.toFin f.a.toFin f.b.toFin f.imm16)
  | 0x02 => some (.M, .lbu f.ctx.toFin f.a.toFin f.b.toFin f.imm16)
  | 0x03 => some (.M, .lh f.ctx.toFin f.a.toFin f.b.toFin f.imm16)
  | 0x04 => some (.M, .lhu f.ctx.toFin f.a.toFin f.b.toFin f.imm16)
  | 0x05 => some (.M, .lw f.ctx.toFin f.a.toFin f.b.toFin f.imm16)
  | 0x06 => some (.M, .ld f.ctx.toFin f.a.toFin f.b.toFin f.imm16)
  | 0x07 => some (.M, .lq f.ctx.toFin f.a.toFin f.b.toFin f.imm16)
  | 0x08 => some (.M, .lwl f.ctx.toFin f.a.toFin f.b.toFin f.imm16)
  | 0x09 => some (.M, .lwr f.ctx.toFin f.a.toFin f.b.toFin f.imm16)
  | 0x0A => some (.M, .ldl f.ctx.toFin f.a.toFin f.b.toFin f.imm16)
  | 0x0B => some (.M, .ldr f.ctx.toFin f.a.toFin f.b.toFin f.imm16)
  | 0x0C => some (.M, .sb f.ctx.toFin f.a.toFin f.b.toFin f.imm16)
  | 0x0D => some (.M, .sh f.ctx.toFin f.a.toFin f.b.toFin f.imm16)
  | 0x0E => some (.M, .sw f.ctx.toFin f.a.toFin f.b.toFin f.imm16)
  | 0x0F => some (.M, .sd f.ctx.toFin f.a.toFin f.b.toFin f.imm16)
  | 0x10 => some (.M, .sq f.ctx.toFin f.a.toFin f.b.toFin f.imm16)
  | 0x11 => some (.M, .lwc1 f.ctx.toFin f.a.toFin f.b.toFin f.imm16)
  | 0x12 => some (.M, .swc1 f.ctx.toFin f.a.toFin f.b.toFin f.imm16)
  | 0x13 => some (.M, .lqc2 f.ctx.toFin f.a.toFin f.b.toFin f.imm16)
  | 0x14 => some (.M, .sqc2 f.ctx.toFin f.a.toFin f.b.toFin f.imm16)
  | _ => none

/-- The rows of unit 0x3 MD (R118): format and command, the operands in the slots R112 gives them. -/
def rowOfMD (f : Fields) : Option (Format × Instr) :=
  match f.fn.toNat with
  | 0x01 => some (.R3, .mult f.ctx.toFin f.a.toFin f.b.toFin f.c.toFin)
  | 0x02 => some (.R3, .multu f.ctx.toFin f.a.toFin f.b.toFin f.c.toFin)
  | 0x03 => some (.RST, .div f.ctx.toFin f.b.toFin f.c.toFin)
  | 0x04 => some (.RST, .divu f.ctx.toFin f.b.toFin f.c.toFin)
  | 0x05 => some (.RDO, .mfhi f.ctx.toFin f.a.toFin)
  | 0x06 => some (.RDO, .mflo f.ctx.toFin f.a.toFin)
  | 0x07 => some (.RSO, .mthi f.ctx.toFin f.b.toFin)
  | 0x08 => some (.RSO, .mtlo f.ctx.toFin f.b.toFin)
  | 0x09 => some (.RDO, .pmfhi f.ctx.toFin f.a.toFin)
  | 0x0A => some (.RDO, .pmflo f.ctx.toFin f.a.toFin)
  | 0x0B => some (.RSO, .pmthi f.ctx.toFin f.b.toFin)
  | 0x0C => some (.RSO, .pmtlo f.ctx.toFin f.b.toFin)
  | 0x0D => some (.R3, .pmulth f.ctx.toFin f.a.toFin f.b.toFin f.c.toFin)
  | 0x0E => some (.R3, .pmaddh f.ctx.toFin f.a.toFin f.b.toFin f.c.toFin)
  | _ => none

/-- The rows of unit 0x4 VA (R118): format and command, the operands in the slots R112 gives them. -/
def rowOfVA (f : Fields) : Option (Format × Instr) :=
  match f.fn.toNat with
  | 0x01 => some (.V3, .vadd f.ctx.toFin f.a.toFin f.b.toFin f.c.toFin f.dest)
  | 0x02 => some (.V3B, .vaddBc f.ctx.toFin f.a.toFin f.b.toFin f.c.toFin f.dest f.bc.toFin)
  | 0x03 => some (.V3, .vsub f.ctx.toFin f.a.toFin f.b.toFin f.c.toFin f.dest)
  | 0x04 => some (.V3B, .vsubBc f.ctx.toFin f.a.toFin f.b.toFin f.c.toFin f.dest f.bc.toFin)
  | 0x05 => some (.V3, .vmul f.ctx.toFin f.a.toFin f.b.toFin f.c.toFin f.dest)
  | 0x06 => some (.V3B, .vmulBc f.ctx.toFin f.a.toFin f.b.toFin f.c.toFin f.dest f.bc.toFin)
  | 0x07 => some (.VA, .vmula f.ctx.toFin f.b.toFin f.c.toFin f.dest)
  | 0x08 => some (.VAB, .vmulaBc f.ctx.toFin f.b.toFin f.c.toFin f.dest f.bc.toFin)
  | 0x09 => some (.VA, .vmadda f.ctx.toFin f.b.toFin f.c.toFin f.dest)
  | 0x0A => some (.VAB, .vmaddaBc f.ctx.toFin f.b.toFin f.c.toFin f.dest f.bc.toFin)
  | 0x0B => some (.VA, .vmsuba f.ctx.toFin f.b.toFin f.c.toFin f.dest)
  | 0x0C => some (.VAB, .vmsubaBc f.ctx.toFin f.b.toFin f.c.toFin f.dest f.bc.toFin)
  | 0x0D => some (.V3, .vmadd f.ctx.toFin f.a.toFin f.b.toFin f.c.toFin f.dest)
  | 0x0E => some (.V3B, .vmaddBc f.ctx.toFin f.a.toFin f.b.toFin f.c.toFin f.dest f.bc.toFin)
  | 0x0F => some (.V3, .vmsub f.ctx.toFin f.a.toFin f.b.toFin f.c.toFin f.dest)
  | 0x10 => some (.V3B, .vmsubBc f.ctx.toFin f.a.toFin f.b.toFin f.c.toFin f.dest f.bc.toFin)
  | 0x11 => some (.V2, .vaddq f.ctx.toFin f.a.toFin f.b.toFin f.dest)
  | 0x12 => some (.V2, .vsubq f.ctx.toFin f.a.toFin f.b.toFin f.dest)
  | 0x13 => some (.V2, .vmulq f.ctx.toFin f.a.toFin f.b.toFin f.dest)
  | 0x14 => some (.V2, .vaddi f.ctx.toFin f.a.toFin f.b.toFin f.dest)
  | 0x15 => some (.V2, .vsubi f.ctx.toFin f.a.toFin f.b.toFin f.dest)
  | 0x16 => some (.V2, .vmuli f.ctx.toFin f.a.toFin f.b.toFin f.dest)
  | _ => none

/-- The rows of unit 0x5 VS (R118): format and command, the operands in the slots R112 gives them. -/
def rowOfVS (f : Fields) : Option (Format × Instr) :=
  match f.fn.toNat with
  | 0x01 => some (.VQ, .vdiv f.ctx.toFin f.b.toFin f.c.toFin f.fsf.toFin f.ftf.toFin)
  | 0x02 => some (.VQ1, .vsqrt f.ctx.toFin f.c.toFin f.ftf.toFin)
  | 0x03 => some (.VQ, .vrsqrt f.ctx.toFin f.b.toFin f.c.toFin f.fsf.toFin f.ftf.toFin)
  | 0x04 => some (.VR, .vrget f.ctx.toFin f.a.toFin f.dest)
  | 0x05 => some (.VR, .vrnext f.ctx.toFin f.a.toFin f.dest)
  | 0x06 => some (.VX, .vrxor f.ctx.toFin f.b.toFin f.fsf.toFin)
  | 0x07 => some (.V2, .vitof0 f.ctx.toFin f.a.toFin f.b.toFin f.dest)
  | 0x08 => some (.V2, .vitof12 f.ctx.toFin f.a.toFin f.b.toFin f.dest)
  | 0x09 => some (.V2, .vitof15 f.ctx.toFin f.a.toFin f.b.toFin f.dest)
  | 0x0A => some (.V2, .vftoi0 f.ctx.toFin f.a.toFin f.b.toFin f.dest)
  | 0x0B => some (.V2, .vftoi4 f.ctx.toFin f.a.toFin f.b.toFin f.dest)
  | 0x0C => some (.V2, .vftoi12 f.ctx.toFin f.a.toFin f.b.toFin f.dest)
  | _ => none

/-- The rows of unit 0x6 PI (R118): format and command, the operands in the slots R112 gives them. -/
def rowOfPI (f : Fields) : Option (Format × Instr) :=
  match f.fn.toNat with
  | 0x01 => some (.R3, .pextlb f.ctx.toFin f.a.toFin f.b.toFin f.c.toFin)
  | 0x02 => some (.R3, .pextlh f.ctx.toFin f.a.toFin f.b.toFin f.c.toFin)
  | 0x03 => some (.R3, .pextlw f.ctx.toFin f.a.toFin f.b.toFin f.c.toFin)
  | 0x04 => some (.R3, .pextub f.ctx.toFin f.a.toFin f.b.toFin f.c.toFin)
  | 0x05 => some (.R3, .pextuh f.ctx.toFin f.a.toFin f.b.toFin f.c.toFin)
  | 0x06 => some (.R3, .pextuw f.ctx.toFin f.a.toFin f.b.toFin f.c.toFin)
  | 0x07 => some (.R3, .ppacb f.ctx.toFin f.a.toFin f.b.toFin f.c.toFin)
  | 0x08 => some (.R3, .ppach f.ctx.toFin f.a.toFin f.b.toFin f.c.toFin)
  | 0x09 => some (.R3, .ppacw f.ctx.toFin f.a.toFin f.b.toFin f.c.toFin)
  | 0x0A => some (.R3, .paddb f.ctx.toFin f.a.toFin f.b.toFin f.c.toFin)
  | 0x0B => some (.R3, .paddh f.ctx.toFin f.a.toFin f.b.toFin f.c.toFin)
  | 0x0C => some (.R3, .paddw f.ctx.toFin f.a.toFin f.b.toFin f.c.toFin)
  | 0x0D => some (.R3, .psubb f.ctx.toFin f.a.toFin f.b.toFin f.c.toFin)
  | 0x0E => some (.R3, .psubh f.ctx.toFin f.a.toFin f.b.toFin f.c.toFin)
  | 0x0F => some (.R3, .psubw f.ctx.toFin f.a.toFin f.b.toFin f.c.toFin)
  | 0x10 => some (.R3, .pceqb f.ctx.toFin f.a.toFin f.b.toFin f.c.toFin)
  | 0x11 => some (.R3, .pceqh f.ctx.toFin f.a.toFin f.b.toFin f.c.toFin)
  | 0x12 => some (.R3, .pceqw f.ctx.toFin f.a.toFin f.b.toFin f.c.toFin)
  | 0x13 => some (.R3, .pcgtb f.ctx.toFin f.a.toFin f.b.toFin f.c.toFin)
  | 0x14 => some (.R3, .pcgth f.ctx.toFin f.a.toFin f.b.toFin f.c.toFin)
  | 0x15 => some (.R3, .pcgtw f.ctx.toFin f.a.toFin f.b.toFin f.c.toFin)
  | 0x16 => some (.R3, .pmaxh f.ctx.toFin f.a.toFin f.b.toFin f.c.toFin)
  | 0x17 => some (.R3, .pmaxw f.ctx.toFin f.a.toFin f.b.toFin f.c.toFin)
  | 0x18 => some (.R3, .pminh f.ctx.toFin f.a.toFin f.b.toFin f.c.toFin)
  | 0x19 => some (.R3, .pminw f.ctx.toFin f.a.toFin f.b.toFin f.c.toFin)
  | 0x1A => some (.SH4, .psllh f.ctx.toFin f.a.toFin f.c.toFin (f.sa.setWidth 4).toFin)
  | 0x1B => some (.SH4, .psrlh f.ctx.toFin f.a.toFin f.c.toFin (f.sa.setWidth 4).toFin)
  | 0x1C => some (.SH4, .psrah f.ctx.toFin f.a.toFin f.c.toFin (f.sa.setWidth 4).toFin)
  | 0x1D => some (.SH5, .psllw f.ctx.toFin f.a.toFin f.c.toFin (f.sa.setWidth 5).toFin)
  | 0x1E => some (.SH5, .psrlw f.ctx.toFin f.a.toFin f.c.toFin (f.sa.setWidth 5).toFin)
  | 0x1F => some (.SH5, .psraw f.ctx.toFin f.a.toFin f.c.toFin (f.sa.setWidth 5).toFin)
  | 0x20 => some (.R2B, .plzcw f.ctx.toFin f.a.toFin f.b.toFin)
  | _ => none

/-- The rows of unit 0x7 DM (R118): format and command, the operands in the slots R112 gives them. -/
def rowOfDM (f : Fields) : Option (Format × Instr) :=
  match f.fn.toNat with
  | 0x01 => some (.D, .dmaTospr f.ctx.toFin f.a.toFin f.b.toFin f.c.toFin)
  | 0x02 => some (.D, .dmaFromspr f.ctx.toFin f.a.toFin f.b.toFin f.c.toFin)
  | 0x03 => some (.D, .dmaTosprIl f.ctx.toFin f.a.toFin f.b.toFin f.c.toFin)
  | 0x04 => some (.D, .dmaFromsprIl f.ctx.toFin f.a.toFin f.b.toFin f.c.toFin)
  | _ => none

/-- The rows of unit 0x8 NC (R118): format and command, the operands in the slots R112 gives them. -/
def rowOfNC (f : Fields) : Option (Format × Instr) :=
  match f.fn.toNat with
  | 0x01 => some (.N, .ncall f.ctx.toFin f.b.toFin)
  | _ => none

/-- The row whose `unit` and `fn` are the word's (R114 step 1, R113). -/
def rowOf (f : Fields) : Option (Format × Instr) :=
  match f.unit.toNat with
  | 0x0 => rowOfRF f
  | 0x1 => rowOfSA f
  | 0x2 => rowOfSM f
  | 0x3 => rowOfMD f
  | 0x4 => rowOfVA f
  | 0x5 => rowOfVS f
  | 0x6 => rowOfPI f
  | 0x7 => rowOfDM f
  | 0x8 => rowOfNC f
  | _ => none

/-- Decoding (R114): a total function from words to commands or a named rejection. -/
def decodeWord (nctx : Nat) (w : Dword) : Except DecodeReject Instr :=
  let f := Fields.ofWord w
  match rowOf f with
  | none => .error .unassigned
  | some (fmt, i) =>
    if w &&& fmt.mask ≠ opcodeBits f.unit f.fn then .error .reservedBit
    else if i.wf nctx then .ok i
    else .error .noContext

/-- The host's reading of one opcode-table word of `nbits` bits: the bits above are 0, a longer word is no command (R110).
The context check is made at the parameters of `State.reset` (log entry 23). -/
def decodeTableWord (nbits w : Nat) : Option Instr :=
  if nbits ≤ 64 then
    match decodeWord Config.reference.nctx (BitVec.ofNat 64 (w % 2 ^ nbits)) with
    | .ok i => some i
    | .error _ => none
  else none

/-! ## The encoder -/

/-- `unit` and `fn` of a command (R118). -/
def Instr.opcode : Instr → BitVec 4 × BitVec 8
  | .nop _ => (0x0#4, 0x01#8)
  | .ctxinit _ => (0x0#4, 0x02#8)
  | .vfcopy _ _ => (0x0#4, 0x03#8)
  | .mfc1 _ _ _ => (0x0#4, 0x04#8)
  | .mtc1 _ _ _ => (0x0#4, 0x05#8)
  | .qmfc2 _ _ _ => (0x0#4, 0x06#8)
  | .qmtc2 _ _ _ => (0x0#4, 0x07#8)
  | .addu _ _ _ _ => (0x1#4, 0x01#8)
  | .subu _ _ _ _ => (0x1#4, 0x02#8)
  | .daddu _ _ _ _ => (0x1#4, 0x03#8)
  | .dsubu _ _ _ _ => (0x1#4, 0x04#8)
  | .addiu _ _ _ _ => (0x1#4, 0x05#8)
  | .daddiu _ _ _ _ => (0x1#4, 0x06#8)
  | .and _ _ _ _ => (0x1#4, 0x07#8)
  | .or _ _ _ _ => (0x1#4, 0x08#8)
  | .xor _ _ _ _ => (0x1#4, 0x09#8)
  | .nor _ _ _ _ => (0x1#4, 0x0A#8)
  | .andi _ _ _ _ => (0x1#4, 0x0B#8)
  | .ori _ _ _ _ => (0x1#4, 0x0C#8)
  | .xori _ _ _ _ => (0x1#4, 0x0D#8)
  | .lui _ _ _ => (0x1#4, 0x0E#8)
  | .sll _ _ _ _ => (0x1#4, 0x0F#8)
  | .srl _ _ _ _ => (0x1#4, 0x10#8)
  | .sra _ _ _ _ => (0x1#4, 0x11#8)
  | .sllv _ _ _ _ => (0x1#4, 0x12#8)
  | .srlv _ _ _ _ => (0x1#4, 0x13#8)
  | .srav _ _ _ _ => (0x1#4, 0x14#8)
  | .dsll _ _ _ _ => (0x1#4, 0x15#8)
  | .dsrl _ _ _ _ => (0x1#4, 0x16#8)
  | .dsra _ _ _ _ => (0x1#4, 0x17#8)
  | .dsllv _ _ _ _ => (0x1#4, 0x18#8)
  | .dsrlv _ _ _ _ => (0x1#4, 0x19#8)
  | .dsrav _ _ _ _ => (0x1#4, 0x1A#8)
  | .slt _ _ _ _ => (0x1#4, 0x1B#8)
  | .sltu _ _ _ _ => (0x1#4, 0x1C#8)
  | .slti _ _ _ _ => (0x1#4, 0x1D#8)
  | .sltiu _ _ _ _ => (0x1#4, 0x1E#8)
  | .movn _ _ _ _ => (0x1#4, 0x1F#8)
  | .movz _ _ _ _ => (0x1#4, 0x20#8)
  | .lb _ _ _ _ => (0x2#4, 0x01#8)
  | .lbu _ _ _ _ => (0x2#4, 0x02#8)
  | .lh _ _ _ _ => (0x2#4, 0x03#8)
  | .lhu _ _ _ _ => (0x2#4, 0x04#8)
  | .lw _ _ _ _ => (0x2#4, 0x05#8)
  | .ld _ _ _ _ => (0x2#4, 0x06#8)
  | .lq _ _ _ _ => (0x2#4, 0x07#8)
  | .lwl _ _ _ _ => (0x2#4, 0x08#8)
  | .lwr _ _ _ _ => (0x2#4, 0x09#8)
  | .ldl _ _ _ _ => (0x2#4, 0x0A#8)
  | .ldr _ _ _ _ => (0x2#4, 0x0B#8)
  | .sb _ _ _ _ => (0x2#4, 0x0C#8)
  | .sh _ _ _ _ => (0x2#4, 0x0D#8)
  | .sw _ _ _ _ => (0x2#4, 0x0E#8)
  | .sd _ _ _ _ => (0x2#4, 0x0F#8)
  | .sq _ _ _ _ => (0x2#4, 0x10#8)
  | .lwc1 _ _ _ _ => (0x2#4, 0x11#8)
  | .swc1 _ _ _ _ => (0x2#4, 0x12#8)
  | .lqc2 _ _ _ _ => (0x2#4, 0x13#8)
  | .sqc2 _ _ _ _ => (0x2#4, 0x14#8)
  | .mult _ _ _ _ => (0x3#4, 0x01#8)
  | .multu _ _ _ _ => (0x3#4, 0x02#8)
  | .div _ _ _ => (0x3#4, 0x03#8)
  | .divu _ _ _ => (0x3#4, 0x04#8)
  | .mfhi _ _ => (0x3#4, 0x05#8)
  | .mflo _ _ => (0x3#4, 0x06#8)
  | .mthi _ _ => (0x3#4, 0x07#8)
  | .mtlo _ _ => (0x3#4, 0x08#8)
  | .pmfhi _ _ => (0x3#4, 0x09#8)
  | .pmflo _ _ => (0x3#4, 0x0A#8)
  | .pmthi _ _ => (0x3#4, 0x0B#8)
  | .pmtlo _ _ => (0x3#4, 0x0C#8)
  | .pmulth _ _ _ _ => (0x3#4, 0x0D#8)
  | .pmaddh _ _ _ _ => (0x3#4, 0x0E#8)
  | .vadd _ _ _ _ _ => (0x4#4, 0x01#8)
  | .vaddBc _ _ _ _ _ _ => (0x4#4, 0x02#8)
  | .vsub _ _ _ _ _ => (0x4#4, 0x03#8)
  | .vsubBc _ _ _ _ _ _ => (0x4#4, 0x04#8)
  | .vmul _ _ _ _ _ => (0x4#4, 0x05#8)
  | .vmulBc _ _ _ _ _ _ => (0x4#4, 0x06#8)
  | .vmula _ _ _ _ => (0x4#4, 0x07#8)
  | .vmulaBc _ _ _ _ _ => (0x4#4, 0x08#8)
  | .vmadda _ _ _ _ => (0x4#4, 0x09#8)
  | .vmaddaBc _ _ _ _ _ => (0x4#4, 0x0A#8)
  | .vmsuba _ _ _ _ => (0x4#4, 0x0B#8)
  | .vmsubaBc _ _ _ _ _ => (0x4#4, 0x0C#8)
  | .vmadd _ _ _ _ _ => (0x4#4, 0x0D#8)
  | .vmaddBc _ _ _ _ _ _ => (0x4#4, 0x0E#8)
  | .vmsub _ _ _ _ _ => (0x4#4, 0x0F#8)
  | .vmsubBc _ _ _ _ _ _ => (0x4#4, 0x10#8)
  | .vaddq _ _ _ _ => (0x4#4, 0x11#8)
  | .vsubq _ _ _ _ => (0x4#4, 0x12#8)
  | .vmulq _ _ _ _ => (0x4#4, 0x13#8)
  | .vaddi _ _ _ _ => (0x4#4, 0x14#8)
  | .vsubi _ _ _ _ => (0x4#4, 0x15#8)
  | .vmuli _ _ _ _ => (0x4#4, 0x16#8)
  | .vdiv _ _ _ _ _ => (0x5#4, 0x01#8)
  | .vsqrt _ _ _ => (0x5#4, 0x02#8)
  | .vrsqrt _ _ _ _ _ => (0x5#4, 0x03#8)
  | .vrget _ _ _ => (0x5#4, 0x04#8)
  | .vrnext _ _ _ => (0x5#4, 0x05#8)
  | .vrxor _ _ _ => (0x5#4, 0x06#8)
  | .vitof0 _ _ _ _ => (0x5#4, 0x07#8)
  | .vitof12 _ _ _ _ => (0x5#4, 0x08#8)
  | .vitof15 _ _ _ _ => (0x5#4, 0x09#8)
  | .vftoi0 _ _ _ _ => (0x5#4, 0x0A#8)
  | .vftoi4 _ _ _ _ => (0x5#4, 0x0B#8)
  | .vftoi12 _ _ _ _ => (0x5#4, 0x0C#8)
  | .pextlb _ _ _ _ => (0x6#4, 0x01#8)
  | .pextlh _ _ _ _ => (0x6#4, 0x02#8)
  | .pextlw _ _ _ _ => (0x6#4, 0x03#8)
  | .pextub _ _ _ _ => (0x6#4, 0x04#8)
  | .pextuh _ _ _ _ => (0x6#4, 0x05#8)
  | .pextuw _ _ _ _ => (0x6#4, 0x06#8)
  | .ppacb _ _ _ _ => (0x6#4, 0x07#8)
  | .ppach _ _ _ _ => (0x6#4, 0x08#8)
  | .ppacw _ _ _ _ => (0x6#4, 0x09#8)
  | .paddb _ _ _ _ => (0x6#4, 0x0A#8)
  | .paddh _ _ _ _ => (0x6#4, 0x0B#8)
  | .paddw _ _ _ _ => (0x6#4, 0x0C#8)
  | .psubb _ _ _ _ => (0x6#4, 0x0D#8)
  | .psubh _ _ _ _ => (0x6#4, 0x0E#8)
  | .psubw _ _ _ _ => (0x6#4, 0x0F#8)
  | .pceqb _ _ _ _ => (0x6#4, 0x10#8)
  | .pceqh _ _ _ _ => (0x6#4, 0x11#8)
  | .pceqw _ _ _ _ => (0x6#4, 0x12#8)
  | .pcgtb _ _ _ _ => (0x6#4, 0x13#8)
  | .pcgth _ _ _ _ => (0x6#4, 0x14#8)
  | .pcgtw _ _ _ _ => (0x6#4, 0x15#8)
  | .pmaxh _ _ _ _ => (0x6#4, 0x16#8)
  | .pmaxw _ _ _ _ => (0x6#4, 0x17#8)
  | .pminh _ _ _ _ => (0x6#4, 0x18#8)
  | .pminw _ _ _ _ => (0x6#4, 0x19#8)
  | .psllh _ _ _ _ => (0x6#4, 0x1A#8)
  | .psrlh _ _ _ _ => (0x6#4, 0x1B#8)
  | .psrah _ _ _ _ => (0x6#4, 0x1C#8)
  | .psllw _ _ _ _ => (0x6#4, 0x1D#8)
  | .psrlw _ _ _ _ => (0x6#4, 0x1E#8)
  | .psraw _ _ _ _ => (0x6#4, 0x1F#8)
  | .plzcw _ _ _ => (0x6#4, 0x20#8)
  | .dmaTospr _ _ _ _ => (0x7#4, 0x01#8)
  | .dmaFromspr _ _ _ _ => (0x7#4, 0x02#8)
  | .dmaTosprIl _ _ _ _ => (0x7#4, 0x03#8)
  | .dmaFromsprIl _ _ _ _ => (0x7#4, 0x04#8)
  | .ncall _ _ => (0x8#4, 0x01#8)

/-- The format of a command (R118). -/
def Instr.format : Instr → Format
  | .nop _ => .Z
  | .ctxinit _ => .Z
  | .vfcopy _ _ => .C
  | .mfc1 _ _ _ => .R2B
  | .mtc1 _ _ _ => .R2B
  | .qmfc2 _ _ _ => .R2B
  | .qmtc2 _ _ _ => .R2B
  | .addu _ _ _ _ => .R3
  | .subu _ _ _ _ => .R3
  | .daddu _ _ _ _ => .R3
  | .dsubu _ _ _ _ => .R3
  | .addiu _ _ _ _ => .RI
  | .daddiu _ _ _ _ => .RI
  | .and _ _ _ _ => .R3
  | .or _ _ _ _ => .R3
  | .xor _ _ _ _ => .R3
  | .nor _ _ _ _ => .R3
  | .andi _ _ _ _ => .RI
  | .ori _ _ _ _ => .RI
  | .xori _ _ _ _ => .RI
  | .lui _ _ _ => .LI
  | .sll _ _ _ _ => .SH5
  | .srl _ _ _ _ => .SH5
  | .sra _ _ _ _ => .SH5
  | .sllv _ _ _ _ => .R3
  | .srlv _ _ _ _ => .R3
  | .srav _ _ _ _ => .R3
  | .dsll _ _ _ _ => .SH6
  | .dsrl _ _ _ _ => .SH6
  | .dsra _ _ _ _ => .SH6
  | .dsllv _ _ _ _ => .R3
  | .dsrlv _ _ _ _ => .R3
  | .dsrav _ _ _ _ => .R3
  | .slt _ _ _ _ => .R3
  | .sltu _ _ _ _ => .R3
  | .slti _ _ _ _ => .RI
  | .sltiu _ _ _ _ => .RI
  | .movn _ _ _ _ => .R3
  | .movz _ _ _ _ => .R3
  | .lb _ _ _ _ => .M
  | .lbu _ _ _ _ => .M
  | .lh _ _ _ _ => .M
  | .lhu _ _ _ _ => .M
  | .lw _ _ _ _ => .M
  | .ld _ _ _ _ => .M
  | .lq _ _ _ _ => .M
  | .lwl _ _ _ _ => .M
  | .lwr _ _ _ _ => .M
  | .ldl _ _ _ _ => .M
  | .ldr _ _ _ _ => .M
  | .sb _ _ _ _ => .M
  | .sh _ _ _ _ => .M
  | .sw _ _ _ _ => .M
  | .sd _ _ _ _ => .M
  | .sq _ _ _ _ => .M
  | .lwc1 _ _ _ _ => .M
  | .swc1 _ _ _ _ => .M
  | .lqc2 _ _ _ _ => .M
  | .sqc2 _ _ _ _ => .M
  | .mult _ _ _ _ => .R3
  | .multu _ _ _ _ => .R3
  | .div _ _ _ => .RST
  | .divu _ _ _ => .RST
  | .mfhi _ _ => .RDO
  | .mflo _ _ => .RDO
  | .mthi _ _ => .RSO
  | .mtlo _ _ => .RSO
  | .pmfhi _ _ => .RDO
  | .pmflo _ _ => .RDO
  | .pmthi _ _ => .RSO
  | .pmtlo _ _ => .RSO
  | .pmulth _ _ _ _ => .R3
  | .pmaddh _ _ _ _ => .R3
  | .vadd _ _ _ _ _ => .V3
  | .vaddBc _ _ _ _ _ _ => .V3B
  | .vsub _ _ _ _ _ => .V3
  | .vsubBc _ _ _ _ _ _ => .V3B
  | .vmul _ _ _ _ _ => .V3
  | .vmulBc _ _ _ _ _ _ => .V3B
  | .vmula _ _ _ _ => .VA
  | .vmulaBc _ _ _ _ _ => .VAB
  | .vmadda _ _ _ _ => .VA
  | .vmaddaBc _ _ _ _ _ => .VAB
  | .vmsuba _ _ _ _ => .VA
  | .vmsubaBc _ _ _ _ _ => .VAB
  | .vmadd _ _ _ _ _ => .V3
  | .vmaddBc _ _ _ _ _ _ => .V3B
  | .vmsub _ _ _ _ _ => .V3
  | .vmsubBc _ _ _ _ _ _ => .V3B
  | .vaddq _ _ _ _ => .V2
  | .vsubq _ _ _ _ => .V2
  | .vmulq _ _ _ _ => .V2
  | .vaddi _ _ _ _ => .V2
  | .vsubi _ _ _ _ => .V2
  | .vmuli _ _ _ _ => .V2
  | .vdiv _ _ _ _ _ => .VQ
  | .vsqrt _ _ _ => .VQ1
  | .vrsqrt _ _ _ _ _ => .VQ
  | .vrget _ _ _ => .VR
  | .vrnext _ _ _ => .VR
  | .vrxor _ _ _ => .VX
  | .vitof0 _ _ _ _ => .V2
  | .vitof12 _ _ _ _ => .V2
  | .vitof15 _ _ _ _ => .V2
  | .vftoi0 _ _ _ _ => .V2
  | .vftoi4 _ _ _ _ => .V2
  | .vftoi12 _ _ _ _ => .V2
  | .pextlb _ _ _ _ => .R3
  | .pextlh _ _ _ _ => .R3
  | .pextlw _ _ _ _ => .R3
  | .pextub _ _ _ _ => .R3
  | .pextuh _ _ _ _ => .R3
  | .pextuw _ _ _ _ => .R3
  | .ppacb _ _ _ _ => .R3
  | .ppach _ _ _ _ => .R3
  | .ppacw _ _ _ _ => .R3
  | .paddb _ _ _ _ => .R3
  | .paddh _ _ _ _ => .R3
  | .paddw _ _ _ _ => .R3
  | .psubb _ _ _ _ => .R3
  | .psubh _ _ _ _ => .R3
  | .psubw _ _ _ _ => .R3
  | .pceqb _ _ _ _ => .R3
  | .pceqh _ _ _ _ => .R3
  | .pceqw _ _ _ _ => .R3
  | .pcgtb _ _ _ _ => .R3
  | .pcgth _ _ _ _ => .R3
  | .pcgtw _ _ _ _ => .R3
  | .pmaxh _ _ _ _ => .R3
  | .pmaxw _ _ _ _ => .R3
  | .pminh _ _ _ _ => .R3
  | .pminw _ _ _ _ => .R3
  | .psllh _ _ _ _ => .SH4
  | .psrlh _ _ _ _ => .SH4
  | .psrah _ _ _ _ => .SH4
  | .psllw _ _ _ _ => .SH5
  | .psrlw _ _ _ _ => .SH5
  | .psraw _ _ _ _ => .SH5
  | .plzcw _ _ _ => .R2B
  | .dmaTospr _ _ _ _ => .D
  | .dmaFromspr _ _ _ _ => .D
  | .dmaTosprIl _ _ _ _ => .D
  | .dmaFromsprIl _ _ _ _ => .D
  | .ncall _ _ => .N

/-- A word's fields with only `unit`, `fn` and `ctx` set: what every format fills in further (R112). -/
def Fields.base (unit : BitVec 4) (fn : BitVec 8) (ctx : Ctx) : Fields :=
  { unit := unit, fn := fn, ctx := BitVec.ofFin ctx, a := 0, b := 0, c := 0, dest := 0, bc := 0, fsf := 0, ftf := 0,
    rsv := 0, sa := 0, imm16 := 0 }

/-- The fields of a command, every field its format does not use 0 (R124). -/
def Fields.ofInstr : Instr → Fields
  | .nop ctx => Fields.base 0x0#4 0x01#8 ctx
  | .ctxinit ctx => Fields.base 0x0#4 0x02#8 ctx
  | .vfcopy ctx sctx => { Fields.base 0x0#4 0x03#8 ctx with a := (BitVec.ofFin (w := 4) sctx).setWidth 5 }
  | .mfc1 ctx rd rs => { Fields.base 0x0#4 0x04#8 ctx with a := BitVec.ofFin rd, b := BitVec.ofFin rs }
  | .mtc1 ctx rd rs => { Fields.base 0x0#4 0x05#8 ctx with a := BitVec.ofFin rd, b := BitVec.ofFin rs }
  | .qmfc2 ctx rd rs => { Fields.base 0x0#4 0x06#8 ctx with a := BitVec.ofFin rd, b := BitVec.ofFin rs }
  | .qmtc2 ctx rd rs => { Fields.base 0x0#4 0x07#8 ctx with a := BitVec.ofFin rd, b := BitVec.ofFin rs }
  | .addu ctx rd rs rt => { Fields.base 0x1#4 0x01#8 ctx with a := BitVec.ofFin rd, b := BitVec.ofFin rs, c := BitVec.ofFin rt }
  | .subu ctx rd rs rt => { Fields.base 0x1#4 0x02#8 ctx with a := BitVec.ofFin rd, b := BitVec.ofFin rs, c := BitVec.ofFin rt }
  | .daddu ctx rd rs rt => { Fields.base 0x1#4 0x03#8 ctx with a := BitVec.ofFin rd, b := BitVec.ofFin rs, c := BitVec.ofFin rt }
  | .dsubu ctx rd rs rt => { Fields.base 0x1#4 0x04#8 ctx with a := BitVec.ofFin rd, b := BitVec.ofFin rs, c := BitVec.ofFin rt }
  | .addiu ctx rt rs imm => { Fields.base 0x1#4 0x05#8 ctx with a := BitVec.ofFin rt, b := BitVec.ofFin rs, imm16 := imm }
  | .daddiu ctx rt rs imm => { Fields.base 0x1#4 0x06#8 ctx with a := BitVec.ofFin rt, b := BitVec.ofFin rs, imm16 := imm }
  | .and ctx rd rs rt => { Fields.base 0x1#4 0x07#8 ctx with a := BitVec.ofFin rd, b := BitVec.ofFin rs, c := BitVec.ofFin rt }
  | .or ctx rd rs rt => { Fields.base 0x1#4 0x08#8 ctx with a := BitVec.ofFin rd, b := BitVec.ofFin rs, c := BitVec.ofFin rt }
  | .xor ctx rd rs rt => { Fields.base 0x1#4 0x09#8 ctx with a := BitVec.ofFin rd, b := BitVec.ofFin rs, c := BitVec.ofFin rt }
  | .nor ctx rd rs rt => { Fields.base 0x1#4 0x0A#8 ctx with a := BitVec.ofFin rd, b := BitVec.ofFin rs, c := BitVec.ofFin rt }
  | .andi ctx rt rs imm => { Fields.base 0x1#4 0x0B#8 ctx with a := BitVec.ofFin rt, b := BitVec.ofFin rs, imm16 := imm }
  | .ori ctx rt rs imm => { Fields.base 0x1#4 0x0C#8 ctx with a := BitVec.ofFin rt, b := BitVec.ofFin rs, imm16 := imm }
  | .xori ctx rt rs imm => { Fields.base 0x1#4 0x0D#8 ctx with a := BitVec.ofFin rt, b := BitVec.ofFin rs, imm16 := imm }
  | .lui ctx rt imm => { Fields.base 0x1#4 0x0E#8 ctx with a := BitVec.ofFin rt, imm16 := imm }
  | .sll ctx rd rt sa => { Fields.base 0x1#4 0x0F#8 ctx with a := BitVec.ofFin rd, c := BitVec.ofFin rt, sa := (BitVec.ofFin (w := 5) sa).setWidth 6 }
  | .srl ctx rd rt sa => { Fields.base 0x1#4 0x10#8 ctx with a := BitVec.ofFin rd, c := BitVec.ofFin rt, sa := (BitVec.ofFin (w := 5) sa).setWidth 6 }
  | .sra ctx rd rt sa => { Fields.base 0x1#4 0x11#8 ctx with a := BitVec.ofFin rd, c := BitVec.ofFin rt, sa := (BitVec.ofFin (w := 5) sa).setWidth 6 }
  | .sllv ctx rd rs rt => { Fields.base 0x1#4 0x12#8 ctx with a := BitVec.ofFin rd, b := BitVec.ofFin rs, c := BitVec.ofFin rt }
  | .srlv ctx rd rs rt => { Fields.base 0x1#4 0x13#8 ctx with a := BitVec.ofFin rd, b := BitVec.ofFin rs, c := BitVec.ofFin rt }
  | .srav ctx rd rs rt => { Fields.base 0x1#4 0x14#8 ctx with a := BitVec.ofFin rd, b := BitVec.ofFin rs, c := BitVec.ofFin rt }
  | .dsll ctx rd rt sa => { Fields.base 0x1#4 0x15#8 ctx with a := BitVec.ofFin rd, c := BitVec.ofFin rt, sa := BitVec.ofFin sa }
  | .dsrl ctx rd rt sa => { Fields.base 0x1#4 0x16#8 ctx with a := BitVec.ofFin rd, c := BitVec.ofFin rt, sa := BitVec.ofFin sa }
  | .dsra ctx rd rt sa => { Fields.base 0x1#4 0x17#8 ctx with a := BitVec.ofFin rd, c := BitVec.ofFin rt, sa := BitVec.ofFin sa }
  | .dsllv ctx rd rs rt => { Fields.base 0x1#4 0x18#8 ctx with a := BitVec.ofFin rd, b := BitVec.ofFin rs, c := BitVec.ofFin rt }
  | .dsrlv ctx rd rs rt => { Fields.base 0x1#4 0x19#8 ctx with a := BitVec.ofFin rd, b := BitVec.ofFin rs, c := BitVec.ofFin rt }
  | .dsrav ctx rd rs rt => { Fields.base 0x1#4 0x1A#8 ctx with a := BitVec.ofFin rd, b := BitVec.ofFin rs, c := BitVec.ofFin rt }
  | .slt ctx rd rs rt => { Fields.base 0x1#4 0x1B#8 ctx with a := BitVec.ofFin rd, b := BitVec.ofFin rs, c := BitVec.ofFin rt }
  | .sltu ctx rd rs rt => { Fields.base 0x1#4 0x1C#8 ctx with a := BitVec.ofFin rd, b := BitVec.ofFin rs, c := BitVec.ofFin rt }
  | .slti ctx rt rs imm => { Fields.base 0x1#4 0x1D#8 ctx with a := BitVec.ofFin rt, b := BitVec.ofFin rs, imm16 := imm }
  | .sltiu ctx rt rs imm => { Fields.base 0x1#4 0x1E#8 ctx with a := BitVec.ofFin rt, b := BitVec.ofFin rs, imm16 := imm }
  | .movn ctx rd rs rt => { Fields.base 0x1#4 0x1F#8 ctx with a := BitVec.ofFin rd, b := BitVec.ofFin rs, c := BitVec.ofFin rt }
  | .movz ctx rd rs rt => { Fields.base 0x1#4 0x20#8 ctx with a := BitVec.ofFin rd, b := BitVec.ofFin rs, c := BitVec.ofFin rt }
  | .lb ctx rt base off => { Fields.base 0x2#4 0x01#8 ctx with a := BitVec.ofFin rt, b := BitVec.ofFin base, imm16 := off }
  | .lbu ctx rt base off => { Fields.base 0x2#4 0x02#8 ctx with a := BitVec.ofFin rt, b := BitVec.ofFin base, imm16 := off }
  | .lh ctx rt base off => { Fields.base 0x2#4 0x03#8 ctx with a := BitVec.ofFin rt, b := BitVec.ofFin base, imm16 := off }
  | .lhu ctx rt base off => { Fields.base 0x2#4 0x04#8 ctx with a := BitVec.ofFin rt, b := BitVec.ofFin base, imm16 := off }
  | .lw ctx rt base off => { Fields.base 0x2#4 0x05#8 ctx with a := BitVec.ofFin rt, b := BitVec.ofFin base, imm16 := off }
  | .ld ctx rt base off => { Fields.base 0x2#4 0x06#8 ctx with a := BitVec.ofFin rt, b := BitVec.ofFin base, imm16 := off }
  | .lq ctx rt base off => { Fields.base 0x2#4 0x07#8 ctx with a := BitVec.ofFin rt, b := BitVec.ofFin base, imm16 := off }
  | .lwl ctx rt base off => { Fields.base 0x2#4 0x08#8 ctx with a := BitVec.ofFin rt, b := BitVec.ofFin base, imm16 := off }
  | .lwr ctx rt base off => { Fields.base 0x2#4 0x09#8 ctx with a := BitVec.ofFin rt, b := BitVec.ofFin base, imm16 := off }
  | .ldl ctx rt base off => { Fields.base 0x2#4 0x0A#8 ctx with a := BitVec.ofFin rt, b := BitVec.ofFin base, imm16 := off }
  | .ldr ctx rt base off => { Fields.base 0x2#4 0x0B#8 ctx with a := BitVec.ofFin rt, b := BitVec.ofFin base, imm16 := off }
  | .sb ctx rt base off => { Fields.base 0x2#4 0x0C#8 ctx with a := BitVec.ofFin rt, b := BitVec.ofFin base, imm16 := off }
  | .sh ctx rt base off => { Fields.base 0x2#4 0x0D#8 ctx with a := BitVec.ofFin rt, b := BitVec.ofFin base, imm16 := off }
  | .sw ctx rt base off => { Fields.base 0x2#4 0x0E#8 ctx with a := BitVec.ofFin rt, b := BitVec.ofFin base, imm16 := off }
  | .sd ctx rt base off => { Fields.base 0x2#4 0x0F#8 ctx with a := BitVec.ofFin rt, b := BitVec.ofFin base, imm16 := off }
  | .sq ctx rt base off => { Fields.base 0x2#4 0x10#8 ctx with a := BitVec.ofFin rt, b := BitVec.ofFin base, imm16 := off }
  | .lwc1 ctx rt base off => { Fields.base 0x2#4 0x11#8 ctx with a := BitVec.ofFin rt, b := BitVec.ofFin base, imm16 := off }
  | .swc1 ctx rt base off => { Fields.base 0x2#4 0x12#8 ctx with a := BitVec.ofFin rt, b := BitVec.ofFin base, imm16 := off }
  | .lqc2 ctx rt base off => { Fields.base 0x2#4 0x13#8 ctx with a := BitVec.ofFin rt, b := BitVec.ofFin base, imm16 := off }
  | .sqc2 ctx rt base off => { Fields.base 0x2#4 0x14#8 ctx with a := BitVec.ofFin rt, b := BitVec.ofFin base, imm16 := off }
  | .mult ctx rd rs rt => { Fields.base 0x3#4 0x01#8 ctx with a := BitVec.ofFin rd, b := BitVec.ofFin rs, c := BitVec.ofFin rt }
  | .multu ctx rd rs rt => { Fields.base 0x3#4 0x02#8 ctx with a := BitVec.ofFin rd, b := BitVec.ofFin rs, c := BitVec.ofFin rt }
  | .div ctx rs rt => { Fields.base 0x3#4 0x03#8 ctx with b := BitVec.ofFin rs, c := BitVec.ofFin rt }
  | .divu ctx rs rt => { Fields.base 0x3#4 0x04#8 ctx with b := BitVec.ofFin rs, c := BitVec.ofFin rt }
  | .mfhi ctx rd => { Fields.base 0x3#4 0x05#8 ctx with a := BitVec.ofFin rd }
  | .mflo ctx rd => { Fields.base 0x3#4 0x06#8 ctx with a := BitVec.ofFin rd }
  | .mthi ctx rs => { Fields.base 0x3#4 0x07#8 ctx with b := BitVec.ofFin rs }
  | .mtlo ctx rs => { Fields.base 0x3#4 0x08#8 ctx with b := BitVec.ofFin rs }
  | .pmfhi ctx rd => { Fields.base 0x3#4 0x09#8 ctx with a := BitVec.ofFin rd }
  | .pmflo ctx rd => { Fields.base 0x3#4 0x0A#8 ctx with a := BitVec.ofFin rd }
  | .pmthi ctx rs => { Fields.base 0x3#4 0x0B#8 ctx with b := BitVec.ofFin rs }
  | .pmtlo ctx rs => { Fields.base 0x3#4 0x0C#8 ctx with b := BitVec.ofFin rs }
  | .pmulth ctx rd rs rt => { Fields.base 0x3#4 0x0D#8 ctx with a := BitVec.ofFin rd, b := BitVec.ofFin rs, c := BitVec.ofFin rt }
  | .pmaddh ctx rd rs rt => { Fields.base 0x3#4 0x0E#8 ctx with a := BitVec.ofFin rd, b := BitVec.ofFin rs, c := BitVec.ofFin rt }
  | .vadd ctx fd fs ft dest => { Fields.base 0x4#4 0x01#8 ctx with a := BitVec.ofFin fd, b := BitVec.ofFin fs, c := BitVec.ofFin ft, dest := dest }
  | .vaddBc ctx fd fs ft dest bc => { Fields.base 0x4#4 0x02#8 ctx with a := BitVec.ofFin fd, b := BitVec.ofFin fs, c := BitVec.ofFin ft, dest := dest, bc := BitVec.ofFin bc }
  | .vsub ctx fd fs ft dest => { Fields.base 0x4#4 0x03#8 ctx with a := BitVec.ofFin fd, b := BitVec.ofFin fs, c := BitVec.ofFin ft, dest := dest }
  | .vsubBc ctx fd fs ft dest bc => { Fields.base 0x4#4 0x04#8 ctx with a := BitVec.ofFin fd, b := BitVec.ofFin fs, c := BitVec.ofFin ft, dest := dest, bc := BitVec.ofFin bc }
  | .vmul ctx fd fs ft dest => { Fields.base 0x4#4 0x05#8 ctx with a := BitVec.ofFin fd, b := BitVec.ofFin fs, c := BitVec.ofFin ft, dest := dest }
  | .vmulBc ctx fd fs ft dest bc => { Fields.base 0x4#4 0x06#8 ctx with a := BitVec.ofFin fd, b := BitVec.ofFin fs, c := BitVec.ofFin ft, dest := dest, bc := BitVec.ofFin bc }
  | .vmula ctx fs ft dest => { Fields.base 0x4#4 0x07#8 ctx with b := BitVec.ofFin fs, c := BitVec.ofFin ft, dest := dest }
  | .vmulaBc ctx fs ft dest bc => { Fields.base 0x4#4 0x08#8 ctx with b := BitVec.ofFin fs, c := BitVec.ofFin ft, dest := dest, bc := BitVec.ofFin bc }
  | .vmadda ctx fs ft dest => { Fields.base 0x4#4 0x09#8 ctx with b := BitVec.ofFin fs, c := BitVec.ofFin ft, dest := dest }
  | .vmaddaBc ctx fs ft dest bc => { Fields.base 0x4#4 0x0A#8 ctx with b := BitVec.ofFin fs, c := BitVec.ofFin ft, dest := dest, bc := BitVec.ofFin bc }
  | .vmsuba ctx fs ft dest => { Fields.base 0x4#4 0x0B#8 ctx with b := BitVec.ofFin fs, c := BitVec.ofFin ft, dest := dest }
  | .vmsubaBc ctx fs ft dest bc => { Fields.base 0x4#4 0x0C#8 ctx with b := BitVec.ofFin fs, c := BitVec.ofFin ft, dest := dest, bc := BitVec.ofFin bc }
  | .vmadd ctx fd fs ft dest => { Fields.base 0x4#4 0x0D#8 ctx with a := BitVec.ofFin fd, b := BitVec.ofFin fs, c := BitVec.ofFin ft, dest := dest }
  | .vmaddBc ctx fd fs ft dest bc => { Fields.base 0x4#4 0x0E#8 ctx with a := BitVec.ofFin fd, b := BitVec.ofFin fs, c := BitVec.ofFin ft, dest := dest, bc := BitVec.ofFin bc }
  | .vmsub ctx fd fs ft dest => { Fields.base 0x4#4 0x0F#8 ctx with a := BitVec.ofFin fd, b := BitVec.ofFin fs, c := BitVec.ofFin ft, dest := dest }
  | .vmsubBc ctx fd fs ft dest bc => { Fields.base 0x4#4 0x10#8 ctx with a := BitVec.ofFin fd, b := BitVec.ofFin fs, c := BitVec.ofFin ft, dest := dest, bc := BitVec.ofFin bc }
  | .vaddq ctx fd fs dest => { Fields.base 0x4#4 0x11#8 ctx with a := BitVec.ofFin fd, b := BitVec.ofFin fs, dest := dest }
  | .vsubq ctx fd fs dest => { Fields.base 0x4#4 0x12#8 ctx with a := BitVec.ofFin fd, b := BitVec.ofFin fs, dest := dest }
  | .vmulq ctx fd fs dest => { Fields.base 0x4#4 0x13#8 ctx with a := BitVec.ofFin fd, b := BitVec.ofFin fs, dest := dest }
  | .vaddi ctx fd fs dest => { Fields.base 0x4#4 0x14#8 ctx with a := BitVec.ofFin fd, b := BitVec.ofFin fs, dest := dest }
  | .vsubi ctx fd fs dest => { Fields.base 0x4#4 0x15#8 ctx with a := BitVec.ofFin fd, b := BitVec.ofFin fs, dest := dest }
  | .vmuli ctx fd fs dest => { Fields.base 0x4#4 0x16#8 ctx with a := BitVec.ofFin fd, b := BitVec.ofFin fs, dest := dest }
  | .vdiv ctx fs ft fsf ftf => { Fields.base 0x5#4 0x01#8 ctx with b := BitVec.ofFin fs, c := BitVec.ofFin ft, fsf := BitVec.ofFin fsf, ftf := BitVec.ofFin ftf }
  | .vsqrt ctx ft ftf => { Fields.base 0x5#4 0x02#8 ctx with c := BitVec.ofFin ft, ftf := BitVec.ofFin ftf }
  | .vrsqrt ctx fs ft fsf ftf => { Fields.base 0x5#4 0x03#8 ctx with b := BitVec.ofFin fs, c := BitVec.ofFin ft, fsf := BitVec.ofFin fsf, ftf := BitVec.ofFin ftf }
  | .vrget ctx fd dest => { Fields.base 0x5#4 0x04#8 ctx with a := BitVec.ofFin fd, dest := dest }
  | .vrnext ctx fd dest => { Fields.base 0x5#4 0x05#8 ctx with a := BitVec.ofFin fd, dest := dest }
  | .vrxor ctx fs fsf => { Fields.base 0x5#4 0x06#8 ctx with b := BitVec.ofFin fs, fsf := BitVec.ofFin fsf }
  | .vitof0 ctx fd fs dest => { Fields.base 0x5#4 0x07#8 ctx with a := BitVec.ofFin fd, b := BitVec.ofFin fs, dest := dest }
  | .vitof12 ctx fd fs dest => { Fields.base 0x5#4 0x08#8 ctx with a := BitVec.ofFin fd, b := BitVec.ofFin fs, dest := dest }
  | .vitof15 ctx fd fs dest => { Fields.base 0x5#4 0x09#8 ctx with a := BitVec.ofFin fd, b := BitVec.ofFin fs, dest := dest }
  | .vftoi0 ctx fd fs dest => { Fields.base 0x5#4 0x0A#8 ctx with a := BitVec.ofFin fd, b := BitVec.ofFin fs, dest := dest }
  | .vftoi4 ctx fd fs dest => { Fields.base 0x5#4 0x0B#8 ctx with a := BitVec.ofFin fd, b := BitVec.ofFin fs, dest := dest }
  | .vftoi12 ctx fd fs dest => { Fields.base 0x5#4 0x0C#8 ctx with a := BitVec.ofFin fd, b := BitVec.ofFin fs, dest := dest }
  | .pextlb ctx rd rs rt => { Fields.base 0x6#4 0x01#8 ctx with a := BitVec.ofFin rd, b := BitVec.ofFin rs, c := BitVec.ofFin rt }
  | .pextlh ctx rd rs rt => { Fields.base 0x6#4 0x02#8 ctx with a := BitVec.ofFin rd, b := BitVec.ofFin rs, c := BitVec.ofFin rt }
  | .pextlw ctx rd rs rt => { Fields.base 0x6#4 0x03#8 ctx with a := BitVec.ofFin rd, b := BitVec.ofFin rs, c := BitVec.ofFin rt }
  | .pextub ctx rd rs rt => { Fields.base 0x6#4 0x04#8 ctx with a := BitVec.ofFin rd, b := BitVec.ofFin rs, c := BitVec.ofFin rt }
  | .pextuh ctx rd rs rt => { Fields.base 0x6#4 0x05#8 ctx with a := BitVec.ofFin rd, b := BitVec.ofFin rs, c := BitVec.ofFin rt }
  | .pextuw ctx rd rs rt => { Fields.base 0x6#4 0x06#8 ctx with a := BitVec.ofFin rd, b := BitVec.ofFin rs, c := BitVec.ofFin rt }
  | .ppacb ctx rd rs rt => { Fields.base 0x6#4 0x07#8 ctx with a := BitVec.ofFin rd, b := BitVec.ofFin rs, c := BitVec.ofFin rt }
  | .ppach ctx rd rs rt => { Fields.base 0x6#4 0x08#8 ctx with a := BitVec.ofFin rd, b := BitVec.ofFin rs, c := BitVec.ofFin rt }
  | .ppacw ctx rd rs rt => { Fields.base 0x6#4 0x09#8 ctx with a := BitVec.ofFin rd, b := BitVec.ofFin rs, c := BitVec.ofFin rt }
  | .paddb ctx rd rs rt => { Fields.base 0x6#4 0x0A#8 ctx with a := BitVec.ofFin rd, b := BitVec.ofFin rs, c := BitVec.ofFin rt }
  | .paddh ctx rd rs rt => { Fields.base 0x6#4 0x0B#8 ctx with a := BitVec.ofFin rd, b := BitVec.ofFin rs, c := BitVec.ofFin rt }
  | .paddw ctx rd rs rt => { Fields.base 0x6#4 0x0C#8 ctx with a := BitVec.ofFin rd, b := BitVec.ofFin rs, c := BitVec.ofFin rt }
  | .psubb ctx rd rs rt => { Fields.base 0x6#4 0x0D#8 ctx with a := BitVec.ofFin rd, b := BitVec.ofFin rs, c := BitVec.ofFin rt }
  | .psubh ctx rd rs rt => { Fields.base 0x6#4 0x0E#8 ctx with a := BitVec.ofFin rd, b := BitVec.ofFin rs, c := BitVec.ofFin rt }
  | .psubw ctx rd rs rt => { Fields.base 0x6#4 0x0F#8 ctx with a := BitVec.ofFin rd, b := BitVec.ofFin rs, c := BitVec.ofFin rt }
  | .pceqb ctx rd rs rt => { Fields.base 0x6#4 0x10#8 ctx with a := BitVec.ofFin rd, b := BitVec.ofFin rs, c := BitVec.ofFin rt }
  | .pceqh ctx rd rs rt => { Fields.base 0x6#4 0x11#8 ctx with a := BitVec.ofFin rd, b := BitVec.ofFin rs, c := BitVec.ofFin rt }
  | .pceqw ctx rd rs rt => { Fields.base 0x6#4 0x12#8 ctx with a := BitVec.ofFin rd, b := BitVec.ofFin rs, c := BitVec.ofFin rt }
  | .pcgtb ctx rd rs rt => { Fields.base 0x6#4 0x13#8 ctx with a := BitVec.ofFin rd, b := BitVec.ofFin rs, c := BitVec.ofFin rt }
  | .pcgth ctx rd rs rt => { Fields.base 0x6#4 0x14#8 ctx with a := BitVec.ofFin rd, b := BitVec.ofFin rs, c := BitVec.ofFin rt }
  | .pcgtw ctx rd rs rt => { Fields.base 0x6#4 0x15#8 ctx with a := BitVec.ofFin rd, b := BitVec.ofFin rs, c := BitVec.ofFin rt }
  | .pmaxh ctx rd rs rt => { Fields.base 0x6#4 0x16#8 ctx with a := BitVec.ofFin rd, b := BitVec.ofFin rs, c := BitVec.ofFin rt }
  | .pmaxw ctx rd rs rt => { Fields.base 0x6#4 0x17#8 ctx with a := BitVec.ofFin rd, b := BitVec.ofFin rs, c := BitVec.ofFin rt }
  | .pminh ctx rd rs rt => { Fields.base 0x6#4 0x18#8 ctx with a := BitVec.ofFin rd, b := BitVec.ofFin rs, c := BitVec.ofFin rt }
  | .pminw ctx rd rs rt => { Fields.base 0x6#4 0x19#8 ctx with a := BitVec.ofFin rd, b := BitVec.ofFin rs, c := BitVec.ofFin rt }
  | .psllh ctx rd rt sa => { Fields.base 0x6#4 0x1A#8 ctx with a := BitVec.ofFin rd, c := BitVec.ofFin rt, sa := (BitVec.ofFin (w := 4) sa).setWidth 6 }
  | .psrlh ctx rd rt sa => { Fields.base 0x6#4 0x1B#8 ctx with a := BitVec.ofFin rd, c := BitVec.ofFin rt, sa := (BitVec.ofFin (w := 4) sa).setWidth 6 }
  | .psrah ctx rd rt sa => { Fields.base 0x6#4 0x1C#8 ctx with a := BitVec.ofFin rd, c := BitVec.ofFin rt, sa := (BitVec.ofFin (w := 4) sa).setWidth 6 }
  | .psllw ctx rd rt sa => { Fields.base 0x6#4 0x1D#8 ctx with a := BitVec.ofFin rd, c := BitVec.ofFin rt, sa := (BitVec.ofFin (w := 5) sa).setWidth 6 }
  | .psrlw ctx rd rt sa => { Fields.base 0x6#4 0x1E#8 ctx with a := BitVec.ofFin rd, c := BitVec.ofFin rt, sa := (BitVec.ofFin (w := 5) sa).setWidth 6 }
  | .psraw ctx rd rt sa => { Fields.base 0x6#4 0x1F#8 ctx with a := BitVec.ofFin rd, c := BitVec.ofFin rt, sa := (BitVec.ofFin (w := 5) sa).setWidth 6 }
  | .plzcw ctx rd rs => { Fields.base 0x6#4 0x20#8 ctx with a := BitVec.ofFin rd, b := BitVec.ofFin rs }
  | .dmaTospr ctx rq rm rsp => { Fields.base 0x7#4 0x01#8 ctx with a := BitVec.ofFin rq, b := BitVec.ofFin rm, c := BitVec.ofFin rsp }
  | .dmaFromspr ctx rq rm rsp => { Fields.base 0x7#4 0x02#8 ctx with a := BitVec.ofFin rq, b := BitVec.ofFin rm, c := BitVec.ofFin rsp }
  | .dmaTosprIl ctx rq rm rsp => { Fields.base 0x7#4 0x03#8 ctx with a := BitVec.ofFin rq, b := BitVec.ofFin rm, c := BitVec.ofFin rsp }
  | .dmaFromsprIl ctx rq rm rsp => { Fields.base 0x7#4 0x04#8 ctx with a := BitVec.ofFin rq, b := BitVec.ofFin rm, c := BitVec.ofFin rsp }
  | .ncall ctx rs => { Fields.base 0x8#4 0x01#8 ctx with b := BitVec.ofFin rs }

/-- The word of a field assignment (R124's sum of shifted fields). -/
def Fields.toWord (f : Fields) : Dword :=
  f.unit.setWidth 64 <<< 60 |||
  f.fn.setWidth 64 <<< 52 |||
  f.ctx.setWidth 64 <<< 48 |||
  f.a.setWidth 64 <<< 43 |||
  f.b.setWidth 64 <<< 38 |||
  f.c.setWidth 64 <<< 33 |||
  f.dest.setWidth 64 <<< 29 |||
  f.bc.setWidth 64 <<< 27 |||
  f.fsf.setWidth 64 <<< 25 |||
  f.ftf.setWidth 64 <<< 23 |||
  f.rsv.setWidth 64 <<< 22 |||
  f.sa.setWidth 64 <<< 16 |||
  f.imm16.setWidth 64

/-- The word of a command (R124). -/
def encode (i : Instr) : Dword := (Fields.ofInstr i).toWord

end Sys2Proof
end

