-- ==== Sys2Proof/Machine/Bits.lean ====
section
/-! DEFINITION. Lanes, extensions and byte merges: the bit-field helpers of 00_scope.md R10, R11 and 42_scalar_mem.md
R202. -/

namespace Sys2Proof.Machine

/-- Lane `i` of width `w` (00_scope.md R11). -/
def lane (w : Nat) (v : Quad) (i : Nat) : BitVec w := v.extractLsb' (i * w) w

/-- The value whose lane `i` is `g i` for i below `n`, its other bits 0. -/
def ofLanes (w : Nat) (g : Nat → BitVec w) : Nat → Quad
  | 0 => 0
  | n + 1 => ofLanes w g n ||| (g n).setWidth 128 <<< (n * w)

/-- `.d[0]` of a register. -/
def d0 (v : Quad) : Dword := v.extractLsb' 0 64

/-- `.w[0]` of a register. -/
def w0 (v : Quad) : Word := v.extractLsb' 0 32

/-- `.d[0] <- d`: bits 127:64 kept (10_state.md R24, R25). -/
def setD0 (v : Quad) (d : Dword) : Quad := v.extractLsb' 64 64 ++ d

/-- `.w[0] <- w`: bits 127:32 kept (10_state.md R24). -/
def setW0 (v : Quad) (w : Word) : Quad := v.extractLsb' 32 96 ++ w

/-- `sext_N` to 64 bits (00_scope.md R10). -/
def sext64 {n : Nat} (v : BitVec n) : Dword := v.signExtend 64

/-- `zext_N` to 64 bits (00_scope.md R10). -/
def zext64 {n : Nat} (v : BitVec n) : Dword := v.setWidth 64

/-- The lanes the mask selects from `r`, the others from `old` bit for bit (44_vu_arith.md R270). -/
def maskMerge (dest : Mask) (r : Nat → Word) (old : Quad) : Quad :=
  ofLanes 32 (fun i => if dest.getLsbD i then r i else lane 32 old i) 4

/-- The bytes the enables select from `new`, the others from `old` (11_interfaces.md R66, R69). -/
def byteMerge (wmask : BitVec 16) (new old : Quad) : Quad :=
  ofLanes 8 (fun k => if wmask.getLsbD k then lane 8 new k else lane 8 old k) 16

/-- One command's result on every lane of width `w`, `n` lanes. -/
def mapLanes (w n : Nat) (op : BitVec w → BitVec w) (a : Quad) : Quad := ofLanes w (fun i => op (lane w a i)) n

/-- One command's result on every pair of lanes of width `w`, `n` lanes. -/
def zipLanes (w n : Nat) (op : BitVec w → BitVec w → BitVec w) (a b : Quad) : Quad :=
  ofLanes w (fun i => op (lane w a i) (lane w b i)) n

/-- Two sources interleaved from lane `from_` on, `t`'s element in the lower place of each pair (46_packed_int.md R341). -/
def interleave (w n from_ : Nat) (s t : Quad) : Quad :=
  ofLanes w (fun i => if i % 2 = 0 then lane w t (from_ + i / 2) else lane w s (from_ + i / 2)) n

/-- The even lanes of `t` in the low half, of `s` in the high half (46_packed_int.md R349 to R351). -/
def packEven (w n : Nat) (s t : Quad) : Quad :=
  ofLanes w (fun i => if i < n / 2 then lane w t (2 * i) else lane w s (2 * (i - n / 2))) n

/-! The unaligned-load tables (42_scalar_mem.md R202), indexed by the shift amount. -/

/-- `LWL_MASK`. -/
def lwlMask : Nat → Word
  | 0 => 0x00FFFFFF#32
  | 1 => 0x0000FFFF#32
  | 2 => 0x000000FF#32
  | _ => 0x00000000#32

/-- `LWL_SHIFT`. -/
def lwlShift : Nat → Nat
  | 0 => 24
  | 1 => 16
  | 2 => 8
  | _ => 0

/-- `LWR_MASK`. -/
def lwrMask : Nat → Word
  | 0 => 0x00000000#32
  | 1 => 0xFF000000#32
  | 2 => 0xFFFF0000#32
  | _ => 0xFFFFFF00#32

/-- `LWR_SHIFT`. -/
def lwrShift : Nat → Nat
  | 0 => 0
  | 1 => 8
  | 2 => 16
  | _ => 24

/-- `LDL_MASK`. -/
def ldlMask : Nat → Dword
  | 0 => 0x00FFFFFFFFFFFFFF#64
  | 1 => 0x0000FFFFFFFFFFFF#64
  | 2 => 0x000000FFFFFFFFFF#64
  | 3 => 0x00000000FFFFFFFF#64
  | 4 => 0x0000000000FFFFFF#64
  | 5 => 0x000000000000FFFF#64
  | 6 => 0x00000000000000FF#64
  | _ => 0x0000000000000000#64

/-- `LDL_SHIFT`. -/
def ldlShift : Nat → Nat
  | 0 => 56
  | 1 => 48
  | 2 => 40
  | 3 => 32
  | 4 => 24
  | 5 => 16
  | 6 => 8
  | _ => 0

/-- `LDR_MASK`. -/
def ldrMask : Nat → Dword
  | 0 => 0x0000000000000000#64
  | 1 => 0xFF00000000000000#64
  | 2 => 0xFFFF000000000000#64
  | 3 => 0xFFFFFF0000000000#64
  | 4 => 0xFFFFFFFF00000000#64
  | 5 => 0xFFFFFFFFFF000000#64
  | 6 => 0xFFFFFFFFFFFF0000#64
  | _ => 0xFFFFFFFFFFFFFF00#64

/-- `LDR_SHIFT`. -/
def ldrShift : Nat → Nat
  | 0 => 0
  | 1 => 8
  | 2 => 16
  | 3 => 24
  | 4 => 32
  | 5 => 40
  | 6 => 48
  | _ => 56

/-- `lzc` before the bias: the 0 bits above the highest 1 bit, 32 for 0 (46_packed_int.md R374). -/
def leadingZeros (v : Word) : Nat := if v = 0 then 32 else 31 - v.toNat.log2

/-- `lzc(v)` of 46_packed_int.md R374: the complement of a negative value, counted, less one. -/
def leadingSignBits (v : Word) : Word :=
  BitVec.ofNat 32 (leadingZeros (if v.msb then ~~~v else v) - 1)

end Sys2Proof.Machine
end

