-- ==== Sys2Proof/Machine/Float.lean ====
section
/-! DEFINITION. `NUM`: IEEE 754 binary32, round to nearest even, subnormals kept (00_scope.md R14, D11). Every finite
value is a whole number of units of 2^-149, so each operation is computed exactly on such numbers and rounded once.
Where a result is a NaN its pattern is the caller's free value (R14, U12). -/

namespace Sys2Proof.Machine

/-- What a 32-bit pattern stands for; `fin neg mag` is ±mag · 2^-149. -/
inductive FloatView where
  | nan
  | inf (neg : Bool)
  | fin (neg : Bool) (mag : Nat)
deriving DecidableEq, Repr

/-- The value of a pattern (IEEE 754 binary32). -/
def floatView (a : Word) : FloatView :=
  let e := (a.extractLsb' 23 8).toNat
  let m := (a.extractLsb' 0 23).toNat
  if e = 255 then (if m = 0 then .inf a.msb else .nan)
  else .fin a.msb (if e = 0 then m else (2 ^ 23 + m) * 2 ^ (e - 1))

/-- A pattern with the sign put on top of its magnitude bits. -/
def floatPattern (neg : Bool) (bits : Nat) : Word := BitVec.ofNat 32 (if neg then 2 ^ 31 + bits else bits)

/-- The magnitude bits of infinity. -/
def floatInfBits : Nat := 0x7F800000

/-- A NaN pattern made of drawn bits: quiet, its sign and payload free (R14; log entry 7). -/
def quietNaN (d : Quad) : Word := d.extractLsb' 31 1 ++ 0x1FF#9 ++ d.extractLsb' 0 22

/-- The whole number nearest num / den, ties to even. -/
def roundNearestEven (num den : Nat) : Nat :=
  let q := num / den
  let r := num % den
  if den < 2 * r ∨ (2 * r = den ∧ q % 2 = 1) then q + 1 else q

/-- ±(num / den) units of 2^-149 rounded to binary32, overflow to infinity. With d places dropped the significand is the
rounded quotient m and the pattern is d · 2^23 + m, for subnormal (d = 0) and normal results alike. -/
def roundFloat (neg : Bool) (num den : Nat) : Word :=
  let d := (num / den).log2 - 23
  let bits := d * 2 ^ 23 + roundNearestEven num (den * 2 ^ d)
  floatPattern neg (if floatInfBits ≤ bits then floatInfBits else bits)

/-- A signed magnitude as an integer. -/
def signedMag (neg : Bool) (mag : Nat) : Int := if neg then -(mag : Int) else mag

/-- `f32add`; `nan` is the pattern a NaN result takes. -/
def f32add (nan a b : Word) : Word :=
  match floatView a, floatView b with
  | .nan, _ => nan
  | _, .nan => nan
  | .inf s, .inf t => if s = t then floatPattern s floatInfBits else nan
  | .inf s, .fin _ _ => floatPattern s floatInfBits
  | .fin _ _, .inf t => floatPattern t floatInfBits
  | .fin s m, .fin t n =>
    let v := signedMag s m + signedMag t n
    if v = 0 then floatPattern (s && t) 0 else roundFloat (decide (v < 0)) v.natAbs 1

/-- `f32sub`: the sum with the second operand's sign flipped. -/
def f32sub (nan a b : Word) : Word := f32add nan a (b ^^^ 0x80000000#32)

/-- `f32mul`. -/
def f32mul (nan a b : Word) : Word :=
  match floatView a, floatView b with
  | .nan, _ => nan
  | _, .nan => nan
  | .inf s, .inf t => floatPattern (s ^^ t) floatInfBits
  | .inf s, .fin t n => if n = 0 then nan else floatPattern (s ^^ t) floatInfBits
  | .fin s m, .inf t => if m = 0 then nan else floatPattern (s ^^ t) floatInfBits
  | .fin s m, .fin t n => roundFloat (s ^^ t) (m * n) (2 ^ 149)

/-- `f32div`. -/
def f32div (nan a b : Word) : Word :=
  match floatView a, floatView b with
  | .nan, _ => nan
  | _, .nan => nan
  | .inf _, .inf _ => nan
  | .inf s, .fin t _ => floatPattern (s ^^ t) floatInfBits
  | .fin s _, .inf t => floatPattern (s ^^ t) 0
  | .fin s m, .fin t n =>
    if n = 0 then (if m = 0 then nan else floatPattern (s ^^ t) floatInfBits)
    else roundFloat (s ^^ t) (m * 2 ^ 149) n

/-- The whole square root found bit by bit: the largest r + (a number below 2^k) whose square is at most n. -/
def sqrtBits : Nat → Nat → Nat → Nat
  | 0, _, r => r
  | k + 1, n, r => if (r + 2 ^ k) * (r + 2 ^ k) ≤ n then sqrtBits k n (r + 2 ^ k) else sqrtBits k n r

/-- The whole square root of n below 2^428. -/
def natSqrt (n : Nat) : Nat := sqrtBits 214 n 0

/-- `f32sqrt`. The root of mag · 2^-149 is √(mag · 2^149) units; one bit below the whole root says whether it is exact,
which is all that rounding needs. -/
def f32sqrt (nan a : Word) : Word :=
  match floatView a with
  | .nan => nan
  | .inf s => if s then nan else floatPattern false floatInfBits
  | .fin s m =>
    if m = 0 then floatPattern s 0
    else if s then nan
    else
      let n := m * 2 ^ 149
      let r := natSqrt n
      roundFloat false (2 * r + (if r * r = n then 0 else 1)) 2

/-- `f32abs`: the sign bit cleared. -/
def f32abs (a : Word) : Word := a &&& 0x7FFFFFFF#32

/-- `i32tof32`: a signed word to binary32, nearest even. -/
def i32tof32 (v : Word) : Word := roundFloat (decide (v.toInt < 0)) (v.toInt.natAbs * 2 ^ 149) 1

/-- `f32toi32`: truncated toward zero where that is a signed word; otherwise `any`, the caller's free value (R14, D12). -/
def f32toi32 (any a : Word) : Word :=
  match floatView a with
  | .nan => any
  | .inf _ => any
  | .fin s m =>
    let t := signedMag s (m / 2 ^ 149)
    if -(2 ^ 31) ≤ t ∧ t ≤ 2 ^ 31 - 1 then BitVec.ofInt 32 t else any

end Sys2Proof.Machine
end

