-- ==== Sys2Proof/Machine/State.lean ====
section
/-! DEFINITION. The state as plain data (10_state.md, 11_interfaces.md, 20_memory.md), the reasons a step can stop, and
the state right after reset (10_state.md R38, 70_reset_and_hazards.md R460, R461). -/

namespace Sys2Proof.Machine

/-- A byte memory: the listed (address, byte) pairs in rising address order, none of them the byte an unlisted address
reads as (`Memory.unlisted`, Machine/Memory.lean). -/
abbrev Memory := List Host.Cell

/-- One Register File (10_state.md R20 to R31). Every register is one storage; lanes are slices of it (R24). -/
structure Context where
  /-- General registers; index 0 is never written and reads as 0 (R22, R23). -/
  x   : Vector Quad 32
  /-- Scalar float registers (R26). -/
  f   : Vector Word 32
  /-- Vector registers; index 0 is storage that no read returns (R27, R28). -/
  vf  : Vector Quad 32
  /-- `ACC` (R29). -/
  acc : Quad
  /-- `Q` (R30). -/
  q   : Word
  /-- `I` (R30). -/
  i   : Word
  /-- `HI` (R31). -/
  hi  : Quad
  /-- `LO` (R31). -/
  lo  : Quad
deriving DecidableEq, Repr

/-- The fatal codes (60_exceptions.md R424). -/
inductive FatalCode where
  | enc | align | arena | window | count | operand
deriving DecidableEq, Repr

/-- A failed precondition: its code and the values it reports (60_exceptions.md R421, R424). -/
structure Cause where
  code  : FatalCode
  info0 : Nat
  info1 : Nat
  info2 : Nat
deriving DecidableEq, Repr

/-- One access of the host access port (11_interfaces.md R66). -/
structure HostAccess where
  /-- `h_we`: a write, not a read. -/
  we    : Bool
  file  : Fin 8
  ctx   : Ctx
  idx   : Fin 32
  wdata : Quad
  /-- Byte enables of a write. -/
  wmask : BitVec 16
deriving DecidableEq, Repr

/-- What the host and the sequencer do other than issue a command (11_interfaces.md R75). -/
inductive HostEvent where
  /-- An access of the host access port (R66). -/
  | access (a : HostAccess)
  /-- A byte stored into the arena by the host's own means (R75, 20_memory.md R97). -/
  | arenaStore (addr : Nat) (value : Byte)
  /-- The sequencer moves past the command it would present next: only an accepted one cannot be withdrawn (R62, R75). Log
  entry 15. -/
  | skip
  /-- Reset, with the command word that was in execution when `rst_n` went low, if any (70_reset_and_hazards.md R460). -/
  | reset (during : Option Dword)
deriving DecidableEq, Repr

/-- An input the outside world presents: a word on the command port (R62), or an act of the host. -/
inductive Input where
  | command (word : Dword)
  | host (e : HostEvent)
deriving DecidableEq, Repr

/-- What the native target does with one call (48_native_call.md R411, 11_interfaces.md R75). -/
inductive NativeReply where
  /-- It stores these bytes into the arena, in order, and answers this result. -/
  | answers (result : Dword) (stores : List Host.Cell)
  /-- It never answers (93_implementation_defined.md U39). -/
  | never
deriving DecidableEq, Repr

/-- How an accepted command ended (11_interfaces.md R63). -/
inductive Completion where
  | done | fatal
deriving DecidableEq, Repr

/-- One transfer on the memory port (11_interfaces.md R64). -/
structure Transfer where
  /-- `mem_we`. -/
  write : Bool
  /-- `mem_addr`. -/
  addr  : Nat
  /-- `mem_len`, in bytes. -/
  len   : Nat
  /-- The bytes moved, little-endian; the bits above `len` bytes 0 (log entry 20). -/
  data  : Quad
deriving DecidableEq, Repr

/-- What the block's output ports last carried (11_interfaces.md R63 to R66). Log entry 20. -/
structure Ports where
  /-- The report of the last accepted command (R63). -/
  completion : Option Completion
  /-- `h_rdata` of the last host read (R66). -/
  hRdata     : Quad
  /-- The values the last NCALL presented (R65). -/
  native     : Option NativeRequest
  /-- The memory-port transfers of the last accepted command, in order (R64). -/
  transfers  : List Transfer
deriving DecidableEq, Repr

/-- Why the machine stops. -/
inductive Fault where
  /-- Raised by NCALL when the environment's reply says that the target never answers: the block stays busy for ever
  (48_native_call.md R411 "a target that never answers leaves the block busy for ever"; U39 "stuck"). Safe: nothing is
  claimed of what follows. -/
  | nativeTargetSilent
deriving DecidableEq, Repr

/-- Why the machine gives no meaning. -/
inductive Refusal where
  /-- Raised by an arm of `exec` whose instruction has no meaning yet; no arm does. Safe. -/
  | notModelled (mnemonic : String)
deriving DecidableEq, Repr

/-- The block, the arena behind its memory port, and what its environment presents to it. -/
structure State where
  /-- The parameters of the block, changed by no step. Log entry 1. -/
  cfg     : Config
  /-- The contexts; those at or above `cfg.nctx` do not exist and nothing reaches them (10_state.md R21). -/
  ctxs    : Vector Context 16
  /-- `RNG` (R32). -/
  rng     : Word
  /-- The scratchpad (20_memory.md R83). -/
  spad    : Memory
  /-- The arena (20_memory.md R81). -/
  arena   : Memory
  /-- `STATUS` (11_interfaces.md R71). -/
  status  : Word
  /-- `FCODE` (R72). -/
  fcode   : Word
  /-- `FCMD` (R73). -/
  fcmd    : Dword
  /-- `FINFO0` (R74). -/
  finfo0  : Dword
  /-- `FINFO1` (R74). -/
  finfo1  : Dword
  /-- `FINFO2` (R74). -/
  finfo2  : Dword
  /-- The inputs still to be taken, in the order they are presented; a command leaves the list when it completes (10_state.md
  R33). Log entry 4. -/
  inbox   : List Input
  /-- The answers the native-call port will give, in order; where the list is empty the answer is free. Log entry 13. -/
  natives : List NativeReply
  /-- What the output ports last carried. -/
  ports   : Ports
  /-- The counter of free values. Log entry 6. -/
  draws   : Nat
deriving DecidableEq, Repr

/-- A Register File with every storage bit 0: what `State.reset` holds where the spec gives no value. DESIGN CHOICE, log
entry 2. -/
def Context.zero : Context :=
  { x := Vector.replicate 32 0, f := Vector.replicate 32 0, vf := Vector.replicate 32 0,
    acc := 0, q := 0, i := 0, hi := 0, lo := 0 }

/-- Output ports that have carried nothing. The read data is 0: reset idles the requests and the report
(70_reset_and_hazards.md R460), but no rule gives `h_rdata` a value after it. DESIGN CHOICE, log entry 20. -/
def Ports.silent : Ports := { completion := none, hRdata := 0, native := none, transfers := [] }

/-- Right after reset, nothing presented: the six status registers 0 (R38, R460); everything the spec leaves unspecified
at the value log entries 1, 2, 3 and 6 name. -/
def State.reset : State :=
  { cfg := Config.reference, ctxs := Vector.replicate 16 Context.zero, rng := 0, spad := [], arena := [],
    status := 0, fcode := 0, fcmd := 0, finfo0 := 0, finfo1 := 0, finfo2 := 0,
    inbox := [], natives := [], ports := Ports.silent, draws := 0 }

end Sys2Proof.Machine
end

