-- ==== Sys2Proof/Machine/Memory.lean ====
section
/-! DEFINITION. Byte memories: reading, writing, and the one canonical form (20_memory.md R84 to R86, R94). -/

namespace Sys2Proof.Machine

/-- What an unlisted address reads as. DESIGN CHOICE, log entry 3: the spec leaves the contents before a first write
open (U7, U8); any contents are a list of the bytes that differ. -/
def Memory.unlisted : Byte := 0

/-- The byte at an address. -/
def Memory.byteAt : Memory → Nat → Byte
  | [], _ => Memory.unlisted
  | (b, u) :: m, a => if b = a then u else Memory.byteAt m a

/-- One byte stored, the canonical form kept. -/
def Memory.setByte : Memory → Nat → Byte → Memory
  | [], a, v => if v = Memory.unlisted then [] else [(a, v)]
  | (b, u) :: m, a, v =>
    if a < b then (if v = Memory.unlisted then (b, u) :: m else (a, v) :: (b, u) :: m)
    else if a = b then (if v = Memory.unlisted then m else (a, v) :: m)
    else (b, u) :: Memory.setByte m a v

/-- Addresses from `lo` on, strictly rising, no entry the unlisted byte. -/
def Memory.wfFrom (lo : Nat) : Memory → Bool
  | [] => true
  | (b, u) :: m => decide (lo ≤ b) && decide (u ≠ Memory.unlisted) && Memory.wfFrom (b + 1) m

/-- The canonical form: equal contents are equal lists. -/
def Memory.wf (m : Memory) : Bool := Memory.wfFrom 0 m

/-- Every listed address is below `n`. -/
def Memory.below (n : Nat) (m : Memory) : Bool := m.all (fun c => decide (c.1 < n))

/-- `MemRead(a, n)`: the bytes at a .. a+n-1, the lowest address least significant (R84, R86). -/
def Memory.read (m : Memory) (a : Nat) : Nat → Nat
  | 0 => 0
  | n + 1 => (m.byteAt a).toNat + 256 * Memory.read m (a + 1) n

/-- `MemWrite(a, n, v)`: bits 8k+7:8k of `v` to address a+k (R84, R86). -/
def Memory.write (m : Memory) (a : Nat) : Nat → Nat → Memory
  | 0, _ => m
  | n + 1, v => Memory.write (m.setByte a (BitVec.ofNat 8 v)) (a + 1) n (v / 256)

/-- A list of byte stores performed in order; an address at or above `size` does not exist and is passed over. -/
def Memory.storeAll (size : Nat) : Memory → List Host.Cell → Memory
  | m, [] => m
  | m, (a, v) :: rest => Memory.storeAll size (if a < size then m.setByte a v else m) rest

/-- The `n` bytes from `a` on replaced by `g` of their address. -/
def Memory.fill (m : Memory) (a : Nat) (g : Nat → Byte) : Nat → Memory
  | 0 => m
  | n + 1 => Memory.fill (m.setByte a (g a)) (a + 1) g n

/-- `n` quadwords copied, number k from `srcAt k` of one memory to `dstAt k` of the other (47_dma.md R393 to R396). -/
def Memory.copyQuads (src : Memory) (srcAt dstAt : Nat → Nat) (dst : Memory) : Nat → Memory
  | 0 => dst
  | n + 1 => (Memory.copyQuads src srcAt dstAt dst n).write (dstAt n) 16 (src.read (srcAt n) 16)

end Sys2Proof.Machine
end

