-- ==== Sys2Proof/Machine/Ops.lean ====
section
/-! DEFINITION. The named operations over registers and memories (00_scope.md R12, R13), taking a fatal (60_exceptions.md
R421), the checked arena access (42_scalar_mem.md R200), and the free values. There is no return from a fatal (R429). -/

namespace Sys2Proof.Machine

/-- What a meaning answers. -/
abbrev Res := Host.Outcome State Fault Refusal

/-! Registers. Every access names its context (10_state.md R21). -/

/-- The Register File of a context. -/
def State.bank (s : State) (c : Ctx) : Context := s.ctxs[c]

/-- One Register File replaced. -/
def State.setBank (s : State) (c : Ctx) (k : Context) : State := { s with ctxs := s.ctxs.set c k }

/-- `x[r]`: 0 for register 0 (R22, R23). -/
def State.x (s : State) (c : Ctx) (r : Reg) : Quad := if r = 0 then 0 else (s.bank c).x[r]

/-- `x[r] <- v`, all 128 bits; discarded for register 0 (R23). -/
def State.setX (s : State) (c : Ctx) (r : Reg) (v : Quad) : State :=
  if r = 0 then s else s.setBank c { s.bank c with x := (s.bank c).x.set r v }

/-- `x[r].d[0]`. -/
def State.xd (s : State) (c : Ctx) (r : Reg) : Dword := d0 (s.x c r)

/-- `x[r].w[0]`. -/
def State.xw (s : State) (c : Ctx) (r : Reg) : Word := w0 (s.x c r)

/-- `x[r].d[0] <- d`: bits 127:64 kept (R25). -/
def State.setXD (s : State) (c : Ctx) (r : Reg) (d : Dword) : State := s.setX c r (setD0 (s.x c r) d)

/-- `x[r].w[0] <- w`: bits 127:32 kept (R12, R24). -/
def State.setXW (s : State) (c : Ctx) (r : Reg) (w : Word) : State := s.setX c r (setW0 (s.x c r) w)

/-- `f[r]` (R26). -/
def State.f (s : State) (c : Ctx) (r : Reg) : Word := (s.bank c).f[r]

/-- `f[r] <- w` (R26). -/
def State.setF (s : State) (c : Ctx) (r : Reg) (w : Word) : State :=
  s.setBank c { s.bank c with f := (s.bank c).f.set r w }

/-- The storage of vector register `r` (R27, R28). -/
def State.vfStored (s : State) (c : Ctx) (r : Reg) : Quad := (s.bank c).vf[r]

/-- `vf[r]` read by a command or the host: `VF0_CONST` for register 0 (R28). -/
def State.vf (s : State) (c : Ctx) (r : Reg) : Quad := if r = 0 then vf0Const else s.vfStored c r

/-- `vf[r] <- v`: the storage of every register, 0 included (R28). -/
def State.setVf (s : State) (c : Ctx) (r : Reg) (v : Quad) : State :=
  s.setBank c { s.bank c with vf := (s.bank c).vf.set r v }

/-- `ACC` (R29). -/
def State.acc (s : State) (c : Ctx) : Quad := (s.bank c).acc
/-- `ACC` written. -/
def State.setAcc (s : State) (c : Ctx) (v : Quad) : State := s.setBank c { s.bank c with acc := v }
/-- `Q` (R30). -/
def State.q (s : State) (c : Ctx) : Word := (s.bank c).q
/-- `Q` written. -/
def State.setQ (s : State) (c : Ctx) (w : Word) : State := s.setBank c { s.bank c with q := w }
/-- `I` (R30). -/
def State.i (s : State) (c : Ctx) : Word := (s.bank c).i
/-- `I` written: by the host access port alone (R30). -/
def State.setI (s : State) (c : Ctx) (w : Word) : State := s.setBank c { s.bank c with i := w }
/-- `HI` (R31). -/
def State.hi (s : State) (c : Ctx) : Quad := (s.bank c).hi
/-- `HI` written. -/
def State.setHi (s : State) (c : Ctx) (v : Quad) : State := s.setBank c { s.bank c with hi := v }
/-- `LO` (R31). -/
def State.lo (s : State) (c : Ctx) : Quad := (s.bank c).lo
/-- `LO` written. -/
def State.setLo (s : State) (c : Ctx) (v : Quad) : State := s.setBank c { s.bank c with lo := v }
/-- `LO.d[0]` and `HI.d[0]` written, their upper halves kept (R31, 43_scalar_muldiv.md R240). -/
def State.setPairD (s : State) (c : Ctx) (lo hi : Dword) : State :=
  (s.setLo c (setD0 (s.lo c) lo)).setHi c (setD0 (s.hi c) hi)
/-- `RNG` written (R32). -/
def State.setRng (s : State) (w : Word) : State := { s with rng := w }

/-! Free values: "any value" (00_scope.md R17). Log entry 6. -/

/-- The free value number `k` of the command now executing. -/
def State.any (s : State) (k : Nat) : Quad := Config.free s.draws k

/-- The free NaN pattern number `k` of the command now executing (R14, U12). Log entry 7. -/
def State.nan (s : State) (k : Nat) : Word := quietNaN (s.any k)

/-- A Register File of free values (40_regfile_ops.md R141). Log entry 5. -/
def Context.anyFrom (g : Nat → Quad) : Context :=
  { x := Vector.ofFn (fun i : Fin 32 => if i.val = 0 then 0 else g i.val),
    f := Vector.ofFn (fun i : Fin 32 => (g (32 + i.val)).setWidth 32),
    vf := Vector.ofFn (fun i : Fin 32 => g (64 + i.val)),
    acc := g 96, q := (g 97).setWidth 32, i := (g 98).setWidth 32, hi := g 99, lo := g 100 }

/-! Fatals (60_exceptions.md). -/

/-- The code numbers of R424. -/
def FatalCode.number : FatalCode → Nat
  | .enc => 1
  | .align => 2
  | .arena => 3
  | .window => 4
  | .count => 5
  | .operand => 6

/-- `STATUS.FATAL`: the block is halted (R423). -/
def State.halted (s : State) : Bool := s.status.getLsbD 0

/-- `raise Fatal(code, i0, i1, i2)` by the command `word` (R421): the six status registers and the completion report
(11_interfaces.md R63) are written, nothing else is. -/
def raiseFatal (word : Dword) (e : Cause) (s : State) : State :=
  { s with
    status := 1
    fcode  := BitVec.ofNat 32 e.code.number
    fcmd   := word
    finfo0 := BitVec.ofNat 64 e.info0
    finfo1 := BitVec.ofNat 64 e.info1
    finfo2 := BitVec.ofNat 64 e.info2
    ports  := { s.ports with completion := some .fatal } }

/-- A command's body under its precondition tests: all of them come before its first write (R421). -/
def guarded (i : Instr) (test : Option Cause) (body : State → Res) (s : State) : Res :=
  match test with
  | some e => .next (raiseFatal (encode i) e s)
  | none => body s

/-! The arena (20_memory.md R86) and the memory port (11_interfaces.md R64). -/

/-- `MemRead(a, n)`. -/
def State.memRead (s : State) (a n : Nat) : Nat := s.arena.read a n

/-- `MemWrite(a, n, v)`. -/
def State.memWrite (s : State) (a n v : Nat) : State := { s with arena := s.arena.write a n v }

/-- Transfers made on the memory port. -/
def State.logTransfers (s : State) (ts : List Transfer) : State :=
  { s with ports := { s.ports with transfers := s.ports.transfers ++ ts } }

/-- The tests of R200 on an access of `n` bytes at `a` for the effective address `ea`: alignment, then bounds. -/
def accessFault (size ea a n : Nat) : Option Cause :=
  if a % n ≠ 0 then some { code := .align, info0 := ea, info1 := n, info2 := 0 }
  else if size < a + n then some { code := .arena, info0 := a, info1 := n, info2 := 0 }
  else none

/-- A load (R200): the tests, one transfer of `n` bytes from `a`, then `put` of the bytes read. The bits of `mem_rdata` above
`mem_len` bytes, which R64 leaves open, are recorded as 0 (DESIGN CHOICE, log entry 20). -/
def loadOp (i : Instr) (ea a n : Nat) (put : Nat → State → State) (s : State) : Res :=
  guarded i (accessFault s.cfg.arenaSize ea a n)
    (fun s => .next (put (s.memRead a n)
      (s.logTransfers [{ write := false, addr := a, len := n, data := BitVec.ofNat 128 (s.memRead a n) }]))) s

/-- A store (R200): the tests, then one transfer of the low `n` bytes of `v` to `ea`. The bits of `mem_wdata` above `mem_len`
bytes, which R64 leaves open, are recorded as 0 (DESIGN CHOICE, log entry 20). -/
def storeOp (i : Instr) (ea n : Nat) (v : Quad) (s : State) : Res :=
  guarded i (accessFault s.cfg.arenaSize ea ea n)
    (fun s => .next ((s.memWrite ea n v.toNat).logTransfers
      [{ write := true, addr := ea, len := n, data := BitVec.ofNat 128 (v.toNat % 256 ^ n) }])) s

end Sys2Proof.Machine
end

