-- ==== Sys2Proof/Machine/Operands.lean ====
section
/-! DEFINITION. Every operand form: immediates (30_encoding.md R115), effective addresses (20_memory.md R82), vector sources
(44_vu_arith.md R271, R272), DMA operands, spans and tests (47_dma.md R390 to R392). -/

namespace Sys2Proof.Machine

/-- `sext_16(imm16)` to 32 bits. -/
def imm32 (imm : BitVec 16) : Word := imm.signExtend 32
/-- `sext_16(imm16)` to 64 bits. -/
def immS64 (imm : BitVec 16) : Dword := imm.signExtend 64
/-- `zext_16(imm16)` to 64 bits. -/
def immZ64 (imm : BitVec 16) : Dword := imm.setWidth 64

/-- The shift amount in a register, `x[r].w[0]` reduced modulo the width 32 (41_scalar_alu.md R178). -/
def State.amount5 (s : State) (c : Ctx) (r : Reg) : Nat := (s.xw c r).toNat % 32
/-- The shift amount in a register, reduced modulo the width 64 (R184). -/
def State.amount6 (s : State) (c : Ctx) (r : Reg) : Nat := (s.xw c r).toNat % 64

/-- `ea = (x[base].w[0] + sext_16(off16)) mod 2^32` (R82, 42_scalar_mem.md R200). -/
def State.ea (s : State) (c : Ctx) (base : Reg) (off : BitVec 16) : Nat := (s.xw c base + imm32 off).toNat

/-- The containing aligned block of `n` bytes: `ea` with its low bits cleared (R200). -/
def alignDown (ea n : Nat) : Nat := ea - ea % n

/-- `S[i] = vf[fs].w[i]` (R271). -/
def State.vecS (s : State) (c : Ctx) (fs : Reg) (i : Nat) : Word := lane 32 (s.vf c fs) i
/-- `T[i] = vf[ft].w[i]`, the plain forms (R271). -/
def State.vecT (s : State) (c : Ctx) (ft : Reg) (i : Nat) : Word := lane 32 (s.vf c ft) i
/-- `T[i] = vf[ft].w[bc]`, the `_BC` forms (R271). -/
def State.vecBc (s : State) (c : Ctx) (ft : Reg) (bc : Lane) (_i : Nat) : Word := lane 32 (s.vf c ft) bc.val
/-- `vf[r].w[k]` for one selected lane (45_vu_special.md R310). -/
def State.vecLane (s : State) (c : Ctx) (r : Reg) (k : Lane) : Word := lane 32 (s.vf c r) k.val

/-- The lanes `dest` selects of `vf[fd]` receive `r`, the others keep their bits (R270). -/
def State.maskVf (s : State) (c : Ctx) (fd : Reg) (dest : Mask) (r : Nat → Word) : State :=
  s.setVf c fd (maskMerge dest r (s.vfStored c fd))
/-- The lanes `dest` selects of `ACC` receive `r`, the others keep their bits (R270, R274). -/
def State.maskAcc (s : State) (c : Ctx) (dest : Mask) (r : Nat → Word) : State :=
  s.setAcc c (maskMerge dest r (s.acc c))

/-- The operands of a DMA command (R390). -/
structure DmaOperands where
  qwc  : Nat
  madr : Nat
  sadr : Nat
deriving DecidableEq, Repr

/-- `qwc`, `madr`, `sadr`: the low words of three registers (R390). -/
def State.dmaOperands (s : State) (c : Ctx) (rq rm rsp : Reg) : DmaOperands :=
  { qwc := (s.xw c rq).toNat, madr := (s.xw c rm).toNat, sadr := (s.xw c rsp).toNat }

/-- The span of a dense side: the destination, and the source of a plain transfer (R391). -/
def denseSpan (il : Bool) (qwc : Nat) : Nat := if il then 64 * (qwc / 4) else 16 * qwc
/-- The span of the source (R391). -/
def sourceSpan (il : Bool) (qwc : Nat) : Nat :=
  if il then (if qwc / 4 = 0 then 0 else 80 * (qwc / 4) - 16) else 16 * qwc

/-- Where quadword `k` of the source lies (R393 to R396): four of every five for the interleaved commands. -/
def sourceAt (il : Bool) (base k : Nat) : Nat := if il then base + 80 * (k / 4) + 16 * (k % 4) else base + 16 * k
/-- Where quadword `k` of the destination lies (R393 to R396). -/
def destAt (base k : Nat) : Nat := base + 16 * k

/-- The six tests of R392 in their order. -/
def dmaFault (il : Bool) (o : DmaOperands) (sspan mspan arenaSize : Nat) : Option Cause :=
  if o.madr % 16 ≠ 0 then some { code := .align, info0 := o.madr, info1 := 16, info2 := 0 }
  else if o.sadr % 16 ≠ 0 then some { code := .align, info0 := o.sadr, info1 := 16, info2 := 1 }
  else if 1024 < o.qwc then some { code := .count, info0 := o.qwc, info1 := 1024, info2 := 0 }
  else if il ∧ o.qwc % 4 ≠ 0 then some { code := .operand, info0 := o.qwc, info1 := 4, info2 := 0 }
  else if spadSize ≤ o.sadr ∨ spadSize < o.sadr + sspan then
    some { code := .window, info0 := o.sadr, info1 := sspan, info2 := 0 }
  else if arenaSize < o.madr + mspan then some { code := .arena, info0 := o.madr, info1 := mspan, info2 := 0 }
  else none

end Sys2Proof.Machine
end

