-- ==== Sys2Proof/Machine/Dma.lean ====
section
/-! DEFINITION. DMA commands (47_dma.md). -/

namespace Sys2Proof.Machine

/-- Main memory to scratchpad (R393, R395): the tests, then the copy; the arena is read by `qwc` transfers of 16 bytes. -/
def dmaToSpad (i : Instr) (il : Bool) (o : DmaOperands) (s : State) : Res :=
  guarded i (dmaFault il o (denseSpan il o.qwc) (sourceSpan il o.qwc) s.cfg.arenaSize)
    (fun s => .next ({ s with
        spad := Memory.copyQuads s.arena (sourceAt il o.madr) (destAt o.sadr) s.spad o.qwc }.logTransfers
      ((List.range o.qwc).map fun k =>
        { write := false, addr := sourceAt il o.madr k, len := 16,
          data := BitVec.ofNat 128 (s.arena.read (sourceAt il o.madr k) 16) }))) s

/-- Scratchpad to main memory (R394, R396): the tests, then the copy; the arena is written by `qwc` transfers of 16
bytes. -/
def dmaFromSpad (i : Instr) (il : Bool) (o : DmaOperands) (s : State) : Res :=
  guarded i (dmaFault il o (sourceSpan il o.qwc) (denseSpan il o.qwc) s.cfg.arenaSize)
    (fun s => .next ({ s with
        arena := Memory.copyQuads s.spad (sourceAt il o.sadr) (destAt o.madr) s.arena o.qwc }.logTransfers
      ((List.range o.qwc).map fun k =>
        { write := true, addr := destAt o.madr k, len := 16,
          data := BitVec.ofNat 128 (s.spad.read (sourceAt il o.sadr k) 16) }))) s

/-- DMA_TOSPR, R393. -/
def execDmaTospr (ctx : Ctx) (rq rm rsp : Reg) (s : State) : Res :=
  dmaToSpad (.dmaTospr ctx rq rm rsp) false (s.dmaOperands ctx rq rm rsp) s

/-- DMA_FROMSPR, R394. -/
def execDmaFromspr (ctx : Ctx) (rq rm rsp : Reg) (s : State) : Res :=
  dmaFromSpad (.dmaFromspr ctx rq rm rsp) false (s.dmaOperands ctx rq rm rsp) s

/-- DMA_TOSPR_IL, R395. -/
def execDmaTosprIl (ctx : Ctx) (rq rm rsp : Reg) (s : State) : Res :=
  dmaToSpad (.dmaTosprIl ctx rq rm rsp) true (s.dmaOperands ctx rq rm rsp) s

/-- DMA_FROMSPR_IL, R396. -/
def execDmaFromsprIl (ctx : Ctx) (rq rm rsp : Reg) (s : State) : Res :=
  dmaFromSpad (.dmaFromsprIl ctx rq rm rsp) true (s.dmaOperands ctx rq rm rsp) s

end Sys2Proof.Machine
end

