-- ==== Sys2Proof/Machine/MulDiv.lean ====
section
/-! DEFINITION. Multiply, divide and the HI/LO pair (43_scalar_muldiv.md). -/

namespace Sys2Proof.Machine

/-- `p[i]`: the exact product of two signed halfword lanes, as a 32-bit pattern (R253). -/
def halfProduct (a b : Quad) (i : Nat) : Word := BitVec.ofInt 32 ((lane 16 a i).toInt * (lane 16 b i).toInt)

/-- Which product word lane `i` of `LO` takes: 0, 1, 4, 5 (R253). -/
def loProduct (i : Nat) : Nat := if i < 2 then i else i + 2
/-- Which product word lane `i` of `HI` takes: 2, 3, 6, 7 (R253). -/
def hiProduct (i : Nat) : Nat := if i < 2 then i + 2 else i + 4

/-- All lanes of `LO` and `HI` written, then the even ones of each to `x[rd]` in the order LO, HI, LO, HI; `rd` = 0 writes
the pair only (R253, R254). -/
def State.setPairLanes (s : State) (c : Ctx) (rd : Reg) (lo hi : Nat → Word) : State :=
  ((s.setLo c (ofLanes 32 lo 4)).setHi c (ofLanes 32 hi 4)).setX c rd
    (ofLanes 32 (fun i => if i % 2 = 0 then lo i else hi (i - 1)) 4)

/-- MULT, R241: `rd` = 0 writes the pair only. -/
def execMult (ctx : Ctx) (rd rs rt : Reg) (s : State) : Res :=
  let p := BitVec.ofInt 64 ((s.xw ctx rs).toInt * (s.xw ctx rt).toInt)
  let lo := sext64 (p.extractLsb' 0 32)
  .next ((s.setPairD ctx lo (sext64 (p.extractLsb' 32 32))).setXD ctx rd lo)

/-- MULTU, R242: halves sign-extended; `rd` = 0 writes the pair only. -/
def execMultu (ctx : Ctx) (rd rs rt : Reg) (s : State) : Res :=
  let p := BitVec.ofNat 64 ((s.xw ctx rs).toNat * (s.xw ctx rt).toNat)
  let lo := sext64 (p.extractLsb' 0 32)
  .next ((s.setPairD ctx lo (sext64 (p.extractLsb' 32 32))).setXD ctx rd lo)

/-- DIV, R243: where the quotient does not exist or does not fit the answer is `IDIV0` (log entry 9). -/
def execDiv (ctx : Ctx) (rs rt : Reg) (s : State) : Res :=
  let n := s.xw ctx rs
  let d := s.xw ctx rt
  if d = 0 ∨ (n.toInt = -(2 ^ 31) ∧ d.toInt = -1) then
    .next (s.setPairD ctx (Config.idiv0 true n d).1 (Config.idiv0 true n d).2)
  else
    .next (s.setPairD ctx (BitVec.ofInt 64 (n.toInt.tdiv d.toInt)) (BitVec.ofInt 64 (n.toInt.tmod d.toInt)))

/-- DIVU, R244: a zero divisor answers `IDIV0` (log entry 9). -/
def execDivu (ctx : Ctx) (rs rt : Reg) (s : State) : Res :=
  let n := s.xw ctx rs
  let d := s.xw ctx rt
  if d = 0 then .next (s.setPairD ctx (Config.idiv0 false n d).1 (Config.idiv0 false n d).2)
  else .next (s.setPairD ctx (sext64 (n / d)) (sext64 (n % d)))

/-- MFHI, R245. -/
def execMfhi (ctx : Ctx) (rd : Reg) (s : State) : Res := .next (s.setXD ctx rd (d0 (s.hi ctx)))

/-- MFLO, R246. -/
def execMflo (ctx : Ctx) (rd : Reg) (s : State) : Res := .next (s.setXD ctx rd (d0 (s.lo ctx)))

/-- MTHI, R247. -/
def execMthi (ctx : Ctx) (rs : Reg) (s : State) : Res := .next (s.setHi ctx (setD0 (s.hi ctx) (s.xd ctx rs)))

/-- MTLO, R248. -/
def execMtlo (ctx : Ctx) (rs : Reg) (s : State) : Res := .next (s.setLo ctx (setD0 (s.lo ctx) (s.xd ctx rs)))

/-- PMFHI, R249. -/
def execPmfhi (ctx : Ctx) (rd : Reg) (s : State) : Res := .next (s.setX ctx rd (s.hi ctx))

/-- PMFLO, R250. -/
def execPmflo (ctx : Ctx) (rd : Reg) (s : State) : Res := .next (s.setX ctx rd (s.lo ctx))

/-- PMTHI, R251. -/
def execPmthi (ctx : Ctx) (rs : Reg) (s : State) : Res := .next (s.setHi ctx (s.x ctx rs))

/-- PMTLO, R252. -/
def execPmtlo (ctx : Ctx) (rs : Reg) (s : State) : Res := .next (s.setLo ctx (s.x ctx rs))

/-- PMULTH, R253. -/
def execPmulth (ctx : Ctx) (rd rs rt : Reg) (s : State) : Res :=
  let p := halfProduct (s.x ctx rs) (s.x ctx rt)
  .next (s.setPairLanes ctx rd (fun i => p (loProduct i)) (fun i => p (hiProduct i)))

/-- PMADDH, R254. -/
def execPmaddh (ctx : Ctx) (rd rs rt : Reg) (s : State) : Res :=
  let p := halfProduct (s.x ctx rs) (s.x ctx rt)
  .next (s.setPairLanes ctx rd (fun i => lane 32 (s.lo ctx) i + p (loProduct i))
    (fun i => lane 32 (s.hi ctx) i + p (hiProduct i)))

end Sys2Proof.Machine
end

