-- ==== Sys2Proof/Machine/NativeCall.lean ====
section
/-! DEFINITION. The native call (48_native_call.md). -/

namespace Sys2Proof.Machine

/-- What NCALL presents (R410, R411): the target from the low word of `x[rs]`, the rest from bits 63:0 of the parameter
registers. -/
def State.nativeRequest (s : State) (c : Ctx) (rs : Reg) : NativeRequest :=
  { target := s.xw c rs, args := s.cfg.ncallArgs.map (fun r => s.xd c r), zero := 0,
    ctx0 := s.xd c s.cfg.ncallCtx0, ctx1 := s.xd c s.cfg.ncallCtx1 }

/-- What the target does: the next reply the environment fixed, or a free result and free stores (log entry 13). -/
def State.nativeReply (s : State) (q : NativeRequest) : NativeReply :=
  match s.natives with
  | r :: _ => r
  | [] => .answers (Config.nativeResult s.draws q s.arena) (Config.nativeStores s.draws q s.arena)

/-- NCALL, R411: the answer and the stores are the environment's, or free (log entry 13). -/
def execNcall (ctx : Ctx) (rs : Reg) (s : State) : Res :=
  let q := s.nativeRequest ctx rs
  match s.nativeReply q with
  | .never => .fault .nativeTargetSilent
  | .answers result stores =>
    .next ({ s with
      arena   := Memory.storeAll s.cfg.arenaSize s.arena stores
      natives := s.natives.tail
      ports   := { s.ports with native := some q } }.setXD ctx s.cfg.ncallRet result)

end Sys2Proof.Machine
end

