-- ==== Sys2Proof/Machine/Flags.lean ====
section
/-! DEFINITION. The block has no flags (10_state.md R34): a compare leaves its answer in a register, 0 or 1 in a scalar
(41_scalar_alu.md R187 to R190), all ones or all zeros in a packed lane (46_packed_int.md R340). -/

namespace Sys2Proof.Machine

/-- 1 if the condition holds, else 0. -/
def flag64 (b : Bool) : Dword := if b then 1 else 0

/-- A lane of ones if the condition holds, else of zeros. -/
def flagLane (w : Nat) (b : Bool) : BitVec w := if b then BitVec.allOnes w else 0

end Sys2Proof.Machine
end

