-- ==== Sys2Proof/Machine/PackedInt.lean ====
section
/-! DEFINITION. Packed-integer commands (46_packed_int.md). -/

namespace Sys2Proof.Machine

/-- PEXTLB, R343. -/
def execPextlb (ctx : Ctx) (rd rs rt : Reg) (s : State) : Res :=
  .next (s.setX ctx rd (interleave 8 16 0 (s.x ctx rs) (s.x ctx rt)))

/-- PEXTLH, R344. -/
def execPextlh (ctx : Ctx) (rd rs rt : Reg) (s : State) : Res :=
  .next (s.setX ctx rd (interleave 16 8 0 (s.x ctx rs) (s.x ctx rt)))

/-- PEXTLW, R345. -/
def execPextlw (ctx : Ctx) (rd rs rt : Reg) (s : State) : Res :=
  .next (s.setX ctx rd (interleave 32 4 0 (s.x ctx rs) (s.x ctx rt)))

/-- PEXTUB, R346. -/
def execPextub (ctx : Ctx) (rd rs rt : Reg) (s : State) : Res :=
  .next (s.setX ctx rd (interleave 8 16 8 (s.x ctx rs) (s.x ctx rt)))

/-- PEXTUH, R347. -/
def execPextuh (ctx : Ctx) (rd rs rt : Reg) (s : State) : Res :=
  .next (s.setX ctx rd (interleave 16 8 4 (s.x ctx rs) (s.x ctx rt)))

/-- PEXTUW, R348. -/
def execPextuw (ctx : Ctx) (rd rs rt : Reg) (s : State) : Res :=
  .next (s.setX ctx rd (interleave 32 4 2 (s.x ctx rs) (s.x ctx rt)))

/-- PPACB, R349. -/
def execPpacb (ctx : Ctx) (rd rs rt : Reg) (s : State) : Res :=
  .next (s.setX ctx rd (packEven 8 16 (s.x ctx rs) (s.x ctx rt)))

/-- PPACH, R350. -/
def execPpach (ctx : Ctx) (rd rs rt : Reg) (s : State) : Res :=
  .next (s.setX ctx rd (packEven 16 8 (s.x ctx rs) (s.x ctx rt)))

/-- PPACW, R351. -/
def execPpacw (ctx : Ctx) (rd rs rt : Reg) (s : State) : Res :=
  .next (s.setX ctx rd (packEven 32 4 (s.x ctx rs) (s.x ctx rt)))

/-- PADDB, R352. -/
def execPaddb (ctx : Ctx) (rd rs rt : Reg) (s : State) : Res :=
  .next (s.setX ctx rd (zipLanes 8 16 (fun a b => a + b) (s.x ctx rs) (s.x ctx rt)))

/-- PADDH, R353. -/
def execPaddh (ctx : Ctx) (rd rs rt : Reg) (s : State) : Res :=
  .next (s.setX ctx rd (zipLanes 16 8 (fun a b => a + b) (s.x ctx rs) (s.x ctx rt)))

/-- PADDW, R354. -/
def execPaddw (ctx : Ctx) (rd rs rt : Reg) (s : State) : Res :=
  .next (s.setX ctx rd (zipLanes 32 4 (fun a b => a + b) (s.x ctx rs) (s.x ctx rt)))

/-- PSUBB, R355. -/
def execPsubb (ctx : Ctx) (rd rs rt : Reg) (s : State) : Res :=
  .next (s.setX ctx rd (zipLanes 8 16 (fun a b => a - b) (s.x ctx rs) (s.x ctx rt)))

/-- PSUBH, R356. -/
def execPsubh (ctx : Ctx) (rd rs rt : Reg) (s : State) : Res :=
  .next (s.setX ctx rd (zipLanes 16 8 (fun a b => a - b) (s.x ctx rs) (s.x ctx rt)))

/-- PSUBW, R357. -/
def execPsubw (ctx : Ctx) (rd rs rt : Reg) (s : State) : Res :=
  .next (s.setX ctx rd (zipLanes 32 4 (fun a b => a - b) (s.x ctx rs) (s.x ctx rt)))

/-- PCEQB, R358. -/
def execPceqb (ctx : Ctx) (rd rs rt : Reg) (s : State) : Res :=
  .next (s.setX ctx rd (zipLanes 8 16 (fun a b => flagLane 8 (a == b)) (s.x ctx rs) (s.x ctx rt)))

/-- PCEQH, R359. -/
def execPceqh (ctx : Ctx) (rd rs rt : Reg) (s : State) : Res :=
  .next (s.setX ctx rd (zipLanes 16 8 (fun a b => flagLane 16 (a == b)) (s.x ctx rs) (s.x ctx rt)))

/-- PCEQW, R360. -/
def execPceqw (ctx : Ctx) (rd rs rt : Reg) (s : State) : Res :=
  .next (s.setX ctx rd (zipLanes 32 4 (fun a b => flagLane 32 (a == b)) (s.x ctx rs) (s.x ctx rt)))

/-- PCGTB, R361. -/
def execPcgtb (ctx : Ctx) (rd rs rt : Reg) (s : State) : Res :=
  .next (s.setX ctx rd (zipLanes 8 16 (fun a b => flagLane 8 (b.slt a)) (s.x ctx rs) (s.x ctx rt)))

/-- PCGTH, R362. -/
def execPcgth (ctx : Ctx) (rd rs rt : Reg) (s : State) : Res :=
  .next (s.setX ctx rd (zipLanes 16 8 (fun a b => flagLane 16 (b.slt a)) (s.x ctx rs) (s.x ctx rt)))

/-- PCGTW, R363. -/
def execPcgtw (ctx : Ctx) (rd rs rt : Reg) (s : State) : Res :=
  .next (s.setX ctx rd (zipLanes 32 4 (fun a b => flagLane 32 (b.slt a)) (s.x ctx rs) (s.x ctx rt)))

/-- PMAXH, R364. -/
def execPmaxh (ctx : Ctx) (rd rs rt : Reg) (s : State) : Res :=
  .next (s.setX ctx rd (zipLanes 16 8 (fun a b => if b.slt a then a else b) (s.x ctx rs) (s.x ctx rt)))

/-- PMAXW, R365. -/
def execPmaxw (ctx : Ctx) (rd rs rt : Reg) (s : State) : Res :=
  .next (s.setX ctx rd (zipLanes 32 4 (fun a b => if b.slt a then a else b) (s.x ctx rs) (s.x ctx rt)))

/-- PMINH, R366. -/
def execPminh (ctx : Ctx) (rd rs rt : Reg) (s : State) : Res :=
  .next (s.setX ctx rd (zipLanes 16 8 (fun a b => if a.slt b then a else b) (s.x ctx rs) (s.x ctx rt)))

/-- PMINW, R367. -/
def execPminw (ctx : Ctx) (rd rs rt : Reg) (s : State) : Res :=
  .next (s.setX ctx rd (zipLanes 32 4 (fun a b => if a.slt b then a else b) (s.x ctx rs) (s.x ctx rt)))

/-- PSLLH, R368. -/
def execPsllh (ctx : Ctx) (rd rt : Reg) (sa : Fin 16) (s : State) : Res :=
  .next (s.setX ctx rd (mapLanes 16 8 (fun a => a <<< sa.val) (s.x ctx rt)))

/-- PSRLH, R369. -/
def execPsrlh (ctx : Ctx) (rd rt : Reg) (sa : Fin 16) (s : State) : Res :=
  .next (s.setX ctx rd (mapLanes 16 8 (fun a => a >>> sa.val) (s.x ctx rt)))

/-- PSRAH, R370. -/
def execPsrah (ctx : Ctx) (rd rt : Reg) (sa : Fin 16) (s : State) : Res :=
  .next (s.setX ctx rd (mapLanes 16 8 (fun a => a.sshiftRight sa.val) (s.x ctx rt)))

/-- PSLLW, R371. -/
def execPsllw (ctx : Ctx) (rd rt : Reg) (sa : Fin 32) (s : State) : Res :=
  .next (s.setX ctx rd (mapLanes 32 4 (fun a => a <<< sa.val) (s.x ctx rt)))

/-- PSRLW, R372. -/
def execPsrlw (ctx : Ctx) (rd rt : Reg) (sa : Fin 32) (s : State) : Res :=
  .next (s.setX ctx rd (mapLanes 32 4 (fun a => a >>> sa.val) (s.x ctx rt)))

/-- PSRAW, R373. -/
def execPsraw (ctx : Ctx) (rd rt : Reg) (sa : Fin 32) (s : State) : Res :=
  .next (s.setX ctx rd (mapLanes 32 4 (fun a => a.sshiftRight sa.val) (s.x ctx rt)))

/-- PLZCW, R374: lanes 2 and 3 are any value (log entry 11). -/
def execPlzcw (ctx : Ctx) (rd rs : Reg) (s : State) : Res :=
  .next (s.setX ctx rd (ofLanes 32
    (fun i => if i < 2 then leadingSignBits (lane 32 (s.x ctx rs) i) else (s.any i).setWidth 32) 4))

end Sys2Proof.Machine
end

