-- ==== Sys2Proof/Machine/Rf.lean ====
section
/-! DEFINITION. Register-file commands (40_regfile_ops.md). In MFC1, MTC1, QMFC2 and QMTC2 slot A is `rd` and slot B is `rs` whatever
files they name. -/

namespace Sys2Proof.Machine

/-- NOP, R140: no operation. -/
def execNop (_ctx : Ctx) (s : State) : Res := .next s

/-- CTXINIT, R141: every register of the context any value (log entry 5). -/
def execCtxinit (ctx : Ctx) (s : State) : Res := .next (s.setBank ctx (Context.anyFrom s.any))

/-- VFCOPY, R142: the vector bank of context `sctx`, register 0's storage included, into context `ctx`. -/
def execVfcopy (ctx sctx : Ctx) (s : State) : Res := .next (s.setBank ctx { s.bank ctx with vf := (s.bank sctx).vf })

/-- MFC1, R143: the pattern of `f[rs]`, sign-extended. -/
def execMfc1 (ctx : Ctx) (rd rs : Reg) (s : State) : Res := .next (s.setXD ctx rd (sext64 (s.f ctx rs)))

/-- MTC1, R144: the low word to `f[rd]`. -/
def execMtc1 (ctx : Ctx) (rd rs : Reg) (s : State) : Res := .next (s.setF ctx rd (s.xw ctx rs))

/-- QMFC2, R145: a whole vector register to a general register. -/
def execQmfc2 (ctx : Ctx) (rd rs : Reg) (s : State) : Res := .next (s.setX ctx rd (s.vf ctx rs))

/-- QMTC2, R146: a whole general register to a vector register. -/
def execQmtc2 (ctx : Ctx) (rd rs : Reg) (s : State) : Res := .next (s.setVf ctx rd (s.x ctx rs))

end Sys2Proof.Machine
end

