-- ==== Sys2Proof/Machine/ScalarAlu.lean ====
section
/-! DEFINITION. Scalar ALU commands (41_scalar_alu.md). -/

namespace Sys2Proof.Machine

/-- ADDU, R161. -/
def execAddu (ctx : Ctx) (rd rs rt : Reg) (s : State) : Res :=
  .next (s.setXD ctx rd (sext64 (s.xw ctx rs + s.xw ctx rt)))

/-- SUBU, R162. -/
def execSubu (ctx : Ctx) (rd rs rt : Reg) (s : State) : Res :=
  .next (s.setXD ctx rd (sext64 (s.xw ctx rs - s.xw ctx rt)))

/-- DADDU, R163. -/
def execDaddu (ctx : Ctx) (rd rs rt : Reg) (s : State) : Res := .next (s.setXD ctx rd (s.xd ctx rs + s.xd ctx rt))

/-- DSUBU, R164. -/
def execDsubu (ctx : Ctx) (rd rs rt : Reg) (s : State) : Res := .next (s.setXD ctx rd (s.xd ctx rs - s.xd ctx rt))

/-- ADDIU, R165. -/
def execAddiu (ctx : Ctx) (rt rs : Reg) (imm : BitVec 16) (s : State) : Res :=
  .next (s.setXD ctx rt (sext64 (s.xw ctx rs + imm32 imm)))

/-- DADDIU, R166. -/
def execDaddiu (ctx : Ctx) (rt rs : Reg) (imm : BitVec 16) (s : State) : Res :=
  .next (s.setXD ctx rt (s.xd ctx rs + immS64 imm))

/-- AND, R167. -/
def execAnd (ctx : Ctx) (rd rs rt : Reg) (s : State) : Res := .next (s.setXD ctx rd (s.xd ctx rs &&& s.xd ctx rt))

/-- OR, R168. -/
def execOr (ctx : Ctx) (rd rs rt : Reg) (s : State) : Res := .next (s.setXD ctx rd (s.xd ctx rs ||| s.xd ctx rt))

/-- XOR, R169. -/
def execXor (ctx : Ctx) (rd rs rt : Reg) (s : State) : Res := .next (s.setXD ctx rd (s.xd ctx rs ^^^ s.xd ctx rt))

/-- NOR, R170. -/
def execNor (ctx : Ctx) (rd rs rt : Reg) (s : State) : Res :=
  .next (s.setXD ctx rd (~~~(s.xd ctx rs ||| s.xd ctx rt)))

/-- ANDI, R171. -/
def execAndi (ctx : Ctx) (rt rs : Reg) (imm : BitVec 16) (s : State) : Res :=
  .next (s.setXD ctx rt (s.xd ctx rs &&& immZ64 imm))

/-- ORI, R172. -/
def execOri (ctx : Ctx) (rt rs : Reg) (imm : BitVec 16) (s : State) : Res :=
  .next (s.setXD ctx rt (s.xd ctx rs ||| immZ64 imm))

/-- XORI, R173. -/
def execXori (ctx : Ctx) (rt rs : Reg) (imm : BitVec 16) (s : State) : Res :=
  .next (s.setXD ctx rt (s.xd ctx rs ^^^ immZ64 imm))

/-- LUI, R174. -/
def execLui (ctx : Ctx) (rt : Reg) (imm : BitVec 16) (s : State) : Res :=
  .next (s.setXD ctx rt (sext64 (imm ++ (0 : BitVec 16))))

/-- SLL, R175. -/
def execSll (ctx : Ctx) (rd rt : Reg) (sa : Fin 32) (s : State) : Res :=
  .next (s.setXD ctx rd (sext64 (s.xw ctx rt <<< sa.val)))

/-- SRL, R176. -/
def execSrl (ctx : Ctx) (rd rt : Reg) (sa : Fin 32) (s : State) : Res :=
  .next (s.setXD ctx rd (sext64 (s.xw ctx rt >>> sa.val)))

/-- SRA, R177. -/
def execSra (ctx : Ctx) (rd rt : Reg) (sa : Fin 32) (s : State) : Res :=
  .next (s.setXD ctx rd (sext64 ((s.xw ctx rt).sshiftRight sa.val)))

/-- SLLV, R178. -/
def execSllv (ctx : Ctx) (rd rs rt : Reg) (s : State) : Res :=
  .next (s.setXD ctx rd (sext64 (s.xw ctx rt <<< s.amount5 ctx rs)))

/-- SRLV, R179. -/
def execSrlv (ctx : Ctx) (rd rs rt : Reg) (s : State) : Res :=
  .next (s.setXD ctx rd (sext64 (s.xw ctx rt >>> s.amount5 ctx rs)))

/-- SRAV, R180. -/
def execSrav (ctx : Ctx) (rd rs rt : Reg) (s : State) : Res :=
  .next (s.setXD ctx rd (sext64 ((s.xw ctx rt).sshiftRight (s.amount5 ctx rs))))

/-- DSLL, R181. -/
def execDsll (ctx : Ctx) (rd rt : Reg) (sa : Fin 64) (s : State) : Res :=
  .next (s.setXD ctx rd (s.xd ctx rt <<< sa.val))

/-- DSRL, R182. -/
def execDsrl (ctx : Ctx) (rd rt : Reg) (sa : Fin 64) (s : State) : Res :=
  .next (s.setXD ctx rd (s.xd ctx rt >>> sa.val))

/-- DSRA, R183. -/
def execDsra (ctx : Ctx) (rd rt : Reg) (sa : Fin 64) (s : State) : Res :=
  .next (s.setXD ctx rd ((s.xd ctx rt).sshiftRight sa.val))

/-- DSLLV, R184. -/
def execDsllv (ctx : Ctx) (rd rs rt : Reg) (s : State) : Res :=
  .next (s.setXD ctx rd (s.xd ctx rt <<< s.amount6 ctx rs))

/-- DSRLV, R185. -/
def execDsrlv (ctx : Ctx) (rd rs rt : Reg) (s : State) : Res :=
  .next (s.setXD ctx rd (s.xd ctx rt >>> s.amount6 ctx rs))

/-- DSRAV, R186. -/
def execDsrav (ctx : Ctx) (rd rs rt : Reg) (s : State) : Res :=
  .next (s.setXD ctx rd ((s.xd ctx rt).sshiftRight (s.amount6 ctx rs)))

/-- SLT, R187. -/
def execSlt (ctx : Ctx) (rd rs rt : Reg) (s : State) : Res :=
  .next (s.setXD ctx rd (flag64 ((s.xd ctx rs).slt (s.xd ctx rt))))

/-- SLTU, R188. -/
def execSltu (ctx : Ctx) (rd rs rt : Reg) (s : State) : Res :=
  .next (s.setXD ctx rd (flag64 ((s.xd ctx rs).ult (s.xd ctx rt))))

/-- SLTI, R189. -/
def execSlti (ctx : Ctx) (rt rs : Reg) (imm : BitVec 16) (s : State) : Res :=
  .next (s.setXD ctx rt (flag64 ((s.xd ctx rs).slt (immS64 imm))))

/-- SLTIU, R190. -/
def execSltiu (ctx : Ctx) (rt rs : Reg) (imm : BitVec 16) (s : State) : Res :=
  .next (s.setXD ctx rt (flag64 ((s.xd ctx rs).ult (immS64 imm))))

/-- MOVN, R191. -/
def execMovn (ctx : Ctx) (rd rs rt : Reg) (s : State) : Res :=
  .next (if s.xd ctx rt ≠ 0 then s.setXD ctx rd (s.xd ctx rs) else s)

/-- MOVZ, R192. -/
def execMovz (ctx : Ctx) (rd rs rt : Reg) (s : State) : Res :=
  .next (if s.xd ctx rt = 0 then s.setXD ctx rd (s.xd ctx rs) else s)

end Sys2Proof.Machine
end

