-- ==== Sys2Proof/Machine/ScalarMem.lean ====
section
/-! DEFINITION. Loads and stores (42_scalar_mem.md). `rt` names a scalar float register in LWC1 and SWC1, a vector register in LQC2
and SQC2. -/

namespace Sys2Proof.Machine

/-- LB, R203. -/
def execLb (ctx : Ctx) (rt base : Reg) (off : BitVec 16) (s : State) : Res :=
  let ea := s.ea ctx base off
  loadOp (.lb ctx rt base off) ea ea 1 (fun v t => t.setXD ctx rt (sext64 (BitVec.ofNat 8 v))) s

/-- LBU, R204. -/
def execLbu (ctx : Ctx) (rt base : Reg) (off : BitVec 16) (s : State) : Res :=
  let ea := s.ea ctx base off
  loadOp (.lbu ctx rt base off) ea ea 1 (fun v t => t.setXD ctx rt (zext64 (BitVec.ofNat 8 v))) s

/-- LH, R205. -/
def execLh (ctx : Ctx) (rt base : Reg) (off : BitVec 16) (s : State) : Res :=
  let ea := s.ea ctx base off
  loadOp (.lh ctx rt base off) ea ea 2 (fun v t => t.setXD ctx rt (sext64 (BitVec.ofNat 16 v))) s

/-- LHU, R206. -/
def execLhu (ctx : Ctx) (rt base : Reg) (off : BitVec 16) (s : State) : Res :=
  let ea := s.ea ctx base off
  loadOp (.lhu ctx rt base off) ea ea 2 (fun v t => t.setXD ctx rt (zext64 (BitVec.ofNat 16 v))) s

/-- LW, R207. -/
def execLw (ctx : Ctx) (rt base : Reg) (off : BitVec 16) (s : State) : Res :=
  let ea := s.ea ctx base off
  loadOp (.lw ctx rt base off) ea ea 4 (fun v t => t.setXD ctx rt (sext64 (BitVec.ofNat 32 v))) s

/-- LD, R208. -/
def execLd (ctx : Ctx) (rt base : Reg) (off : BitVec 16) (s : State) : Res :=
  let ea := s.ea ctx base off
  loadOp (.ld ctx rt base off) ea ea 8 (fun v t => t.setXD ctx rt (BitVec.ofNat 64 v)) s

/-- LQ, R209. -/
def execLq (ctx : Ctx) (rt base : Reg) (off : BitVec 16) (s : State) : Res :=
  let ea := s.ea ctx base off
  loadOp (.lq ctx rt base off) ea ea 16 (fun v t => t.setX ctx rt (BitVec.ofNat 128 v)) s

/-- LWL, R210: the left part; sign-extends for every shift amount. -/
def execLwl (ctx : Ctx) (rt base : Reg) (off : BitVec 16) (s : State) : Res :=
  let ea := s.ea ctx base off
  let k := ea % 4
  loadOp (.lwl ctx rt base off) ea (alignDown ea 4) 4
    (fun v t =>
      let mem := BitVec.ofNat 32 v
      t.setXD ctx rt (sext64 ((t.xw ctx rt &&& lwlMask k) ||| mem <<< lwlShift k))) s

/-- LWR, R211: the right part; sign-extends only when the shift amount is 0, else writes `.w[0]` only. -/
def execLwr (ctx : Ctx) (rt base : Reg) (off : BitVec 16) (s : State) : Res :=
  let ea := s.ea ctx base off
  let k := ea % 4
  loadOp (.lwr ctx rt base off) ea (alignDown ea 4) 4
    (fun v t =>
      let mem := BitVec.ofNat 32 v
      let w := (t.xw ctx rt &&& lwrMask k) ||| mem >>> lwrShift k
      if k = 0 then t.setXD ctx rt (sext64 w) else t.setXW ctx rt w) s

/-- LDL, R212. -/
def execLdl (ctx : Ctx) (rt base : Reg) (off : BitVec 16) (s : State) : Res :=
  let ea := s.ea ctx base off
  let k := ea % 8
  loadOp (.ldl ctx rt base off) ea (alignDown ea 8) 8
    (fun v t =>
      let mem := BitVec.ofNat 64 v
      t.setXD ctx rt ((t.xd ctx rt &&& ldlMask k) ||| mem <<< ldlShift k)) s

/-- LDR, R213. -/
def execLdr (ctx : Ctx) (rt base : Reg) (off : BitVec 16) (s : State) : Res :=
  let ea := s.ea ctx base off
  let k := ea % 8
  loadOp (.ldr ctx rt base off) ea (alignDown ea 8) 8
    (fun v t =>
      let mem := BitVec.ofNat 64 v
      t.setXD ctx rt ((t.xd ctx rt &&& ldrMask k) ||| mem >>> ldrShift k)) s

/-- SB, R214. -/
def execSb (ctx : Ctx) (rt base : Reg) (off : BitVec 16) (s : State) : Res :=
  storeOp (.sb ctx rt base off) (s.ea ctx base off) 1 (s.x ctx rt) s

/-- SH, R215. -/
def execSh (ctx : Ctx) (rt base : Reg) (off : BitVec 16) (s : State) : Res :=
  storeOp (.sh ctx rt base off) (s.ea ctx base off) 2 (s.x ctx rt) s

/-- SW, R216. -/
def execSw (ctx : Ctx) (rt base : Reg) (off : BitVec 16) (s : State) : Res :=
  storeOp (.sw ctx rt base off) (s.ea ctx base off) 4 (s.x ctx rt) s

/-- SD, R217. -/
def execSd (ctx : Ctx) (rt base : Reg) (off : BitVec 16) (s : State) : Res :=
  storeOp (.sd ctx rt base off) (s.ea ctx base off) 8 (s.x ctx rt) s

/-- SQ, R218. -/
def execSq (ctx : Ctx) (rt base : Reg) (off : BitVec 16) (s : State) : Res :=
  storeOp (.sq ctx rt base off) (s.ea ctx base off) 16 (s.x ctx rt) s

/-- LWC1, R219. -/
def execLwc1 (ctx : Ctx) (rt base : Reg) (off : BitVec 16) (s : State) : Res :=
  let ea := s.ea ctx base off
  loadOp (.lwc1 ctx rt base off) ea ea 4 (fun v t => t.setF ctx rt (BitVec.ofNat 32 v)) s

/-- SWC1, R220. -/
def execSwc1 (ctx : Ctx) (rt base : Reg) (off : BitVec 16) (s : State) : Res :=
  storeOp (.swc1 ctx rt base off) (s.ea ctx base off) 4 ((s.f ctx rt).setWidth 128) s

/-- LQC2, R221. -/
def execLqc2 (ctx : Ctx) (rt base : Reg) (off : BitVec 16) (s : State) : Res :=
  let ea := s.ea ctx base off
  loadOp (.lqc2 ctx rt base off) ea ea 16 (fun v t => t.setVf ctx rt (BitVec.ofNat 128 v)) s

/-- SQC2, R222. -/
def execSqc2 (ctx : Ctx) (rt base : Reg) (off : BitVec 16) (s : State) : Res :=
  storeOp (.sqc2 ctx rt base off) (s.ea ctx base off) 16 (s.vf ctx rt) s

end Sys2Proof.Machine
end

