-- ==== Sys2Proof/Machine/VuArith.lean ====
section
/-! DEFINITION. Vector arithmetic and the accumulator chain (44_vu_arith.md): each lane one or two roundings (R273). -/

namespace Sys2Proof.Machine

/-- VADD, R275. -/
def execVadd (ctx : Ctx) (fd fs ft : Reg) (dest : Mask) (s : State) : Res :=
  .next (s.maskVf ctx fd dest (fun i => f32add (s.nan i) (s.vecS ctx fs i) (s.vecT ctx ft i)))

/-- VADD_BC, R276. -/
def execVaddBc (ctx : Ctx) (fd fs ft : Reg) (dest : Mask) (bc : Lane) (s : State) : Res :=
  .next (s.maskVf ctx fd dest (fun i => f32add (s.nan i) (s.vecS ctx fs i) (s.vecBc ctx ft bc i)))

/-- VSUB, R277. -/
def execVsub (ctx : Ctx) (fd fs ft : Reg) (dest : Mask) (s : State) : Res :=
  .next (s.maskVf ctx fd dest (fun i => f32sub (s.nan i) (s.vecS ctx fs i) (s.vecT ctx ft i)))

/-- VSUB_BC, R278. -/
def execVsubBc (ctx : Ctx) (fd fs ft : Reg) (dest : Mask) (bc : Lane) (s : State) : Res :=
  .next (s.maskVf ctx fd dest (fun i => f32sub (s.nan i) (s.vecS ctx fs i) (s.vecBc ctx ft bc i)))

/-- VMUL, R279. -/
def execVmul (ctx : Ctx) (fd fs ft : Reg) (dest : Mask) (s : State) : Res :=
  .next (s.maskVf ctx fd dest (fun i => f32mul (s.nan i) (s.vecS ctx fs i) (s.vecT ctx ft i)))

/-- VMUL_BC, R280. -/
def execVmulBc (ctx : Ctx) (fd fs ft : Reg) (dest : Mask) (bc : Lane) (s : State) : Res :=
  .next (s.maskVf ctx fd dest (fun i => f32mul (s.nan i) (s.vecS ctx fs i) (s.vecBc ctx ft bc i)))

/-- VMULA, R281. -/
def execVmula (ctx : Ctx) (fs ft : Reg) (dest : Mask) (s : State) : Res :=
  .next (s.maskAcc ctx dest (fun i => f32mul (s.nan i) (s.vecS ctx fs i) (s.vecT ctx ft i)))

/-- VMULA_BC, R282. -/
def execVmulaBc (ctx : Ctx) (fs ft : Reg) (dest : Mask) (bc : Lane) (s : State) : Res :=
  .next (s.maskAcc ctx dest (fun i => f32mul (s.nan i) (s.vecS ctx fs i) (s.vecBc ctx ft bc i)))

/-- VMADDA, R283. -/
def execVmadda (ctx : Ctx) (fs ft : Reg) (dest : Mask) (s : State) : Res :=
  .next (s.maskAcc ctx dest (fun i => f32add (s.nan i) (lane 32 (s.acc ctx) i)
    (f32mul (s.nan (4 + i)) (s.vecS ctx fs i) (s.vecT ctx ft i))))

/-- VMADDA_BC, R284. -/
def execVmaddaBc (ctx : Ctx) (fs ft : Reg) (dest : Mask) (bc : Lane) (s : State) : Res :=
  .next (s.maskAcc ctx dest (fun i => f32add (s.nan i) (lane 32 (s.acc ctx) i)
    (f32mul (s.nan (4 + i)) (s.vecS ctx fs i) (s.vecBc ctx ft bc i))))

/-- VMSUBA, R285. -/
def execVmsuba (ctx : Ctx) (fs ft : Reg) (dest : Mask) (s : State) : Res :=
  .next (s.maskAcc ctx dest (fun i => f32sub (s.nan i) (lane 32 (s.acc ctx) i)
    (f32mul (s.nan (4 + i)) (s.vecS ctx fs i) (s.vecT ctx ft i))))

/-- VMSUBA_BC, R286. -/
def execVmsubaBc (ctx : Ctx) (fs ft : Reg) (dest : Mask) (bc : Lane) (s : State) : Res :=
  .next (s.maskAcc ctx dest (fun i => f32sub (s.nan i) (lane 32 (s.acc ctx) i)
    (f32mul (s.nan (4 + i)) (s.vecS ctx fs i) (s.vecBc ctx ft bc i))))

/-- VMADD, R287. -/
def execVmadd (ctx : Ctx) (fd fs ft : Reg) (dest : Mask) (s : State) : Res :=
  .next (s.maskVf ctx fd dest (fun i => f32add (s.nan i) (lane 32 (s.acc ctx) i)
    (f32mul (s.nan (4 + i)) (s.vecS ctx fs i) (s.vecT ctx ft i))))

/-- VMADD_BC, R288. -/
def execVmaddBc (ctx : Ctx) (fd fs ft : Reg) (dest : Mask) (bc : Lane) (s : State) : Res :=
  .next (s.maskVf ctx fd dest (fun i => f32add (s.nan i) (lane 32 (s.acc ctx) i)
    (f32mul (s.nan (4 + i)) (s.vecS ctx fs i) (s.vecBc ctx ft bc i))))

/-- VMSUB, R289. -/
def execVmsub (ctx : Ctx) (fd fs ft : Reg) (dest : Mask) (s : State) : Res :=
  .next (s.maskVf ctx fd dest (fun i => f32sub (s.nan i) (lane 32 (s.acc ctx) i)
    (f32mul (s.nan (4 + i)) (s.vecS ctx fs i) (s.vecT ctx ft i))))

/-- VMSUB_BC, R290. -/
def execVmsubBc (ctx : Ctx) (fd fs ft : Reg) (dest : Mask) (bc : Lane) (s : State) : Res :=
  .next (s.maskVf ctx fd dest (fun i => f32sub (s.nan i) (lane 32 (s.acc ctx) i)
    (f32mul (s.nan (4 + i)) (s.vecS ctx fs i) (s.vecBc ctx ft bc i))))

/-- VADDQ, R291. -/
def execVaddq (ctx : Ctx) (fd fs : Reg) (dest : Mask) (s : State) : Res :=
  .next (s.maskVf ctx fd dest (fun i => f32add (s.nan i) (s.vecS ctx fs i) (s.q ctx)))

/-- VSUBQ, R292. -/
def execVsubq (ctx : Ctx) (fd fs : Reg) (dest : Mask) (s : State) : Res :=
  .next (s.maskVf ctx fd dest (fun i => f32sub (s.nan i) (s.vecS ctx fs i) (s.q ctx)))

/-- VMULQ, R293. -/
def execVmulq (ctx : Ctx) (fd fs : Reg) (dest : Mask) (s : State) : Res :=
  .next (s.maskVf ctx fd dest (fun i => f32mul (s.nan i) (s.vecS ctx fs i) (s.q ctx)))

/-- VADDI, R294. -/
def execVaddi (ctx : Ctx) (fd fs : Reg) (dest : Mask) (s : State) : Res :=
  .next (s.maskVf ctx fd dest (fun i => f32add (s.nan i) (s.vecS ctx fs i) (s.i ctx)))

/-- VSUBI, R295. -/
def execVsubi (ctx : Ctx) (fd fs : Reg) (dest : Mask) (s : State) : Res :=
  .next (s.maskVf ctx fd dest (fun i => f32sub (s.nan i) (s.vecS ctx fs i) (s.i ctx)))

/-- VMULI, R296. -/
def execVmuli (ctx : Ctx) (fd fs : Reg) (dest : Mask) (s : State) : Res :=
  .next (s.maskVf ctx fd dest (fun i => f32mul (s.nan i) (s.vecS ctx fs i) (s.i ctx)))

end Sys2Proof.Machine
end

