-- ==== Sys2Proof/Machine/VuSpecial.lean ====
section
/-! DEFINITION. Vector divide, roots, random stream and conversions (45_vu_special.md). -/

namespace Sys2Proof.Machine

/-- VDIV, R312. -/
def execVdiv (ctx : Ctx) (fs ft : Reg) (fsf ftf : Lane) (s : State) : Res :=
  .next (s.setQ ctx (f32div (s.nan 0) (s.vecLane ctx fs fsf) (s.vecLane ctx ft ftf)))

/-- VSQRT, R313. -/
def execVsqrt (ctx : Ctx) (ft : Reg) (ftf : Lane) (s : State) : Res :=
  .next (s.setQ ctx (f32sqrt (s.nan 0) (f32abs (s.vecLane ctx ft ftf))))

/-- VRSQRT, R314. -/
def execVrsqrt (ctx : Ctx) (fs ft : Reg) (fsf ftf : Lane) (s : State) : Res :=
  .next (s.setQ ctx (f32div (s.nan 0) (s.vecLane ctx fs fsf) (f32sqrt (s.nan 1) (f32abs (s.vecLane ctx ft ftf)))))

/-- VRGET, R315: read, not advance. -/
def execVrget (ctx : Ctx) (fd : Reg) (dest : Mask) (s : State) : Res := .next (s.maskVf ctx fd dest (fun _ => s.rng))

/-- VRNEXT, R316: advance once, then read (log entry 10). -/
def execVrnext (ctx : Ctx) (fd : Reg) (dest : Mask) (s : State) : Res :=
  .next ((s.setRng (Config.rngStep s.rng)).maskVf ctx fd dest (fun _ => Config.rngStep s.rng))

/-- VRXOR, R317: mix a lane (log entry 10). -/
def execVrxor (ctx : Ctx) (fs : Reg) (fsf : Lane) (s : State) : Res :=
  .next (s.setRng (Config.rngMix s.rng (s.vecLane ctx fs fsf)))

/-- VITOF0, R318. -/
def execVitof0 (ctx : Ctx) (fd fs : Reg) (dest : Mask) (s : State) : Res :=
  .next (s.maskVf ctx fd dest (fun i => i32tof32 (s.vecS ctx fs i)))

/-- VITOF12, R319. -/
def execVitof12 (ctx : Ctx) (fd fs : Reg) (dest : Mask) (s : State) : Res :=
  .next (s.maskVf ctx fd dest (fun i => f32mul (s.nan (4 + i)) (i32tof32 (s.vecS ctx fs i)) 0x39800000#32))

/-- VITOF15, R320. -/
def execVitof15 (ctx : Ctx) (fd fs : Reg) (dest : Mask) (s : State) : Res :=
  .next (s.maskVf ctx fd dest (fun i => f32mul (s.nan (4 + i)) (i32tof32 (s.vecS ctx fs i)) 0x38000000#32))

/-- VFTOI0, R321. -/
def execVftoi0 (ctx : Ctx) (fd fs : Reg) (dest : Mask) (s : State) : Res :=
  .next (s.maskVf ctx fd dest (fun i => f32toi32 ((s.any i).setWidth 32) (s.vecS ctx fs i)))

/-- VFTOI4, R322. -/
def execVftoi4 (ctx : Ctx) (fd fs : Reg) (dest : Mask) (s : State) : Res :=
  .next (s.maskVf ctx fd dest (fun i => f32toi32 ((s.any i).setWidth 32)
    (f32mul (s.nan (4 + i)) (s.vecS ctx fs i) 0x41800000#32)))

/-- VFTOI12, R323. -/
def execVftoi12 (ctx : Ctx) (fd fs : Reg) (dest : Mask) (s : State) : Res :=
  .next (s.maskVf ctx fd dest (fun i => f32toi32 ((s.any i).setWidth 32)
    (f32mul (s.nan (4 + i)) (s.vecS ctx fs i) 0x45800000#32)))

end Sys2Proof.Machine
end

