-- ==== Sys2Proof/Machine/Dispatch.lean ====
section
/-! DEFINITION. The meaning of every command: one arm for each constructor of `Instr`. -/

namespace Sys2Proof.Machine

/-- One command performed on the state it is accepted in (40_regfile_ops.md R147). -/
def exec (i : Instr) (s : State) : Host.Outcome State Fault Refusal :=
  match i with
  -- unit 0x0 RF
  | .nop ctx => Sys2Proof.Machine.execNop ctx s
  | .ctxinit ctx => Sys2Proof.Machine.execCtxinit ctx s
  | .vfcopy ctx sctx => Sys2Proof.Machine.execVfcopy ctx sctx s
  | .mfc1 ctx rd rs => Sys2Proof.Machine.execMfc1 ctx rd rs s
  | .mtc1 ctx rd rs => Sys2Proof.Machine.execMtc1 ctx rd rs s
  | .qmfc2 ctx rd rs => Sys2Proof.Machine.execQmfc2 ctx rd rs s
  | .qmtc2 ctx rd rs => Sys2Proof.Machine.execQmtc2 ctx rd rs s
  -- unit 0x1 SA
  | .addu ctx rd rs rt => Sys2Proof.Machine.execAddu ctx rd rs rt s
  | .subu ctx rd rs rt => Sys2Proof.Machine.execSubu ctx rd rs rt s
  | .daddu ctx rd rs rt => Sys2Proof.Machine.execDaddu ctx rd rs rt s
  | .dsubu ctx rd rs rt => Sys2Proof.Machine.execDsubu ctx rd rs rt s
  | .addiu ctx rt rs imm => Sys2Proof.Machine.execAddiu ctx rt rs imm s
  | .daddiu ctx rt rs imm => Sys2Proof.Machine.execDaddiu ctx rt rs imm s
  | .and ctx rd rs rt => Sys2Proof.Machine.execAnd ctx rd rs rt s
  | .or ctx rd rs rt => Sys2Proof.Machine.execOr ctx rd rs rt s
  | .xor ctx rd rs rt => Sys2Proof.Machine.execXor ctx rd rs rt s
  | .nor ctx rd rs rt => Sys2Proof.Machine.execNor ctx rd rs rt s
  | .andi ctx rt rs imm => Sys2Proof.Machine.execAndi ctx rt rs imm s
  | .ori ctx rt rs imm => Sys2Proof.Machine.execOri ctx rt rs imm s
  | .xori ctx rt rs imm => Sys2Proof.Machine.execXori ctx rt rs imm s
  | .lui ctx rt imm => Sys2Proof.Machine.execLui ctx rt imm s
  | .sll ctx rd rt sa => Sys2Proof.Machine.execSll ctx rd rt sa s
  | .srl ctx rd rt sa => Sys2Proof.Machine.execSrl ctx rd rt sa s
  | .sra ctx rd rt sa => Sys2Proof.Machine.execSra ctx rd rt sa s
  | .sllv ctx rd rs rt => Sys2Proof.Machine.execSllv ctx rd rs rt s
  | .srlv ctx rd rs rt => Sys2Proof.Machine.execSrlv ctx rd rs rt s
  | .srav ctx rd rs rt => Sys2Proof.Machine.execSrav ctx rd rs rt s
  | .dsll ctx rd rt sa => Sys2Proof.Machine.execDsll ctx rd rt sa s
  | .dsrl ctx rd rt sa => Sys2Proof.Machine.execDsrl ctx rd rt sa s
  | .dsra ctx rd rt sa => Sys2Proof.Machine.execDsra ctx rd rt sa s
  | .dsllv ctx rd rs rt => Sys2Proof.Machine.execDsllv ctx rd rs rt s
  | .dsrlv ctx rd rs rt => Sys2Proof.Machine.execDsrlv ctx rd rs rt s
  | .dsrav ctx rd rs rt => Sys2Proof.Machine.execDsrav ctx rd rs rt s
  | .slt ctx rd rs rt => Sys2Proof.Machine.execSlt ctx rd rs rt s
  | .sltu ctx rd rs rt => Sys2Proof.Machine.execSltu ctx rd rs rt s
  | .slti ctx rt rs imm => Sys2Proof.Machine.execSlti ctx rt rs imm s
  | .sltiu ctx rt rs imm => Sys2Proof.Machine.execSltiu ctx rt rs imm s
  | .movn ctx rd rs rt => Sys2Proof.Machine.execMovn ctx rd rs rt s
  | .movz ctx rd rs rt => Sys2Proof.Machine.execMovz ctx rd rs rt s
  -- unit 0x2 SM
  | .lb ctx rt base off => Sys2Proof.Machine.execLb ctx rt base off s
  | .lbu ctx rt base off => Sys2Proof.Machine.execLbu ctx rt base off s
  | .lh ctx rt base off => Sys2Proof.Machine.execLh ctx rt base off s
  | .lhu ctx rt base off => Sys2Proof.Machine.execLhu ctx rt base off s
  | .lw ctx rt base off => Sys2Proof.Machine.execLw ctx rt base off s
  | .ld ctx rt base off => Sys2Proof.Machine.execLd ctx rt base off s
  | .lq ctx rt base off => Sys2Proof.Machine.execLq ctx rt base off s
  | .lwl ctx rt base off => Sys2Proof.Machine.execLwl ctx rt base off s
  | .lwr ctx rt base off => Sys2Proof.Machine.execLwr ctx rt base off s
  | .ldl ctx rt base off => Sys2Proof.Machine.execLdl ctx rt base off s
  | .ldr ctx rt base off => Sys2Proof.Machine.execLdr ctx rt base off s
  | .sb ctx rt base off => Sys2Proof.Machine.execSb ctx rt base off s
  | .sh ctx rt base off => Sys2Proof.Machine.execSh ctx rt base off s
  | .sw ctx rt base off => Sys2Proof.Machine.execSw ctx rt base off s
  | .sd ctx rt base off => Sys2Proof.Machine.execSd ctx rt base off s
  | .sq ctx rt base off => Sys2Proof.Machine.execSq ctx rt base off s
  | .lwc1 ctx rt base off => Sys2Proof.Machine.execLwc1 ctx rt base off s
  | .swc1 ctx rt base off => Sys2Proof.Machine.execSwc1 ctx rt base off s
  | .lqc2 ctx rt base off => Sys2Proof.Machine.execLqc2 ctx rt base off s
  | .sqc2 ctx rt base off => Sys2Proof.Machine.execSqc2 ctx rt base off s
  -- unit 0x3 MD
  | .mult ctx rd rs rt => Sys2Proof.Machine.execMult ctx rd rs rt s
  | .multu ctx rd rs rt => Sys2Proof.Machine.execMultu ctx rd rs rt s
  | .div ctx rs rt => Sys2Proof.Machine.execDiv ctx rs rt s
  | .divu ctx rs rt => Sys2Proof.Machine.execDivu ctx rs rt s
  | .mfhi ctx rd => Sys2Proof.Machine.execMfhi ctx rd s
  | .mflo ctx rd => Sys2Proof.Machine.execMflo ctx rd s
  | .mthi ctx rs => Sys2Proof.Machine.execMthi ctx rs s
  | .mtlo ctx rs => Sys2Proof.Machine.execMtlo ctx rs s
  | .pmfhi ctx rd => Sys2Proof.Machine.execPmfhi ctx rd s
  | .pmflo ctx rd => Sys2Proof.Machine.execPmflo ctx rd s
  | .pmthi ctx rs => Sys2Proof.Machine.execPmthi ctx rs s
  | .pmtlo ctx rs => Sys2Proof.Machine.execPmtlo ctx rs s
  | .pmulth ctx rd rs rt => Sys2Proof.Machine.execPmulth ctx rd rs rt s
  | .pmaddh ctx rd rs rt => Sys2Proof.Machine.execPmaddh ctx rd rs rt s
  -- unit 0x4 VA
  | .vadd ctx fd fs ft dest => Sys2Proof.Machine.execVadd ctx fd fs ft dest s
  | .vaddBc ctx fd fs ft dest bc => Sys2Proof.Machine.execVaddBc ctx fd fs ft dest bc s
  | .vsub ctx fd fs ft dest => Sys2Proof.Machine.execVsub ctx fd fs ft dest s
  | .vsubBc ctx fd fs ft dest bc => Sys2Proof.Machine.execVsubBc ctx fd fs ft dest bc s
  | .vmul ctx fd fs ft dest => Sys2Proof.Machine.execVmul ctx fd fs ft dest s
  | .vmulBc ctx fd fs ft dest bc => Sys2Proof.Machine.execVmulBc ctx fd fs ft dest bc s
  | .vmula ctx fs ft dest => Sys2Proof.Machine.execVmula ctx fs ft dest s
  | .vmulaBc ctx fs ft dest bc => Sys2Proof.Machine.execVmulaBc ctx fs ft dest bc s
  | .vmadda ctx fs ft dest => Sys2Proof.Machine.execVmadda ctx fs ft dest s
  | .vmaddaBc ctx fs ft dest bc => Sys2Proof.Machine.execVmaddaBc ctx fs ft dest bc s
  | .vmsuba ctx fs ft dest => Sys2Proof.Machine.execVmsuba ctx fs ft dest s
  | .vmsubaBc ctx fs ft dest bc => Sys2Proof.Machine.execVmsubaBc ctx fs ft dest bc s
  | .vmadd ctx fd fs ft dest => Sys2Proof.Machine.execVmadd ctx fd fs ft dest s
  | .vmaddBc ctx fd fs ft dest bc => Sys2Proof.Machine.execVmaddBc ctx fd fs ft dest bc s
  | .vmsub ctx fd fs ft dest => Sys2Proof.Machine.execVmsub ctx fd fs ft dest s
  | .vmsubBc ctx fd fs ft dest bc => Sys2Proof.Machine.execVmsubBc ctx fd fs ft dest bc s
  | .vaddq ctx fd fs dest => Sys2Proof.Machine.execVaddq ctx fd fs dest s
  | .vsubq ctx fd fs dest => Sys2Proof.Machine.execVsubq ctx fd fs dest s
  | .vmulq ctx fd fs dest => Sys2Proof.Machine.execVmulq ctx fd fs dest s
  | .vaddi ctx fd fs dest => Sys2Proof.Machine.execVaddi ctx fd fs dest s
  | .vsubi ctx fd fs dest => Sys2Proof.Machine.execVsubi ctx fd fs dest s
  | .vmuli ctx fd fs dest => Sys2Proof.Machine.execVmuli ctx fd fs dest s
  -- unit 0x5 VS
  | .vdiv ctx fs ft fsf ftf => Sys2Proof.Machine.execVdiv ctx fs ft fsf ftf s
  | .vsqrt ctx ft ftf => Sys2Proof.Machine.execVsqrt ctx ft ftf s
  | .vrsqrt ctx fs ft fsf ftf => Sys2Proof.Machine.execVrsqrt ctx fs ft fsf ftf s
  | .vrget ctx fd dest => Sys2Proof.Machine.execVrget ctx fd dest s
  | .vrnext ctx fd dest => Sys2Proof.Machine.execVrnext ctx fd dest s
  | .vrxor ctx fs fsf => Sys2Proof.Machine.execVrxor ctx fs fsf s
  | .vitof0 ctx fd fs dest => Sys2Proof.Machine.execVitof0 ctx fd fs dest s
  | .vitof12 ctx fd fs dest => Sys2Proof.Machine.execVitof12 ctx fd fs dest s
  | .vitof15 ctx fd fs dest => Sys2Proof.Machine.execVitof15 ctx fd fs dest s
  | .vftoi0 ctx fd fs dest => Sys2Proof.Machine.execVftoi0 ctx fd fs dest s
  | .vftoi4 ctx fd fs dest => Sys2Proof.Machine.execVftoi4 ctx fd fs dest s
  | .vftoi12 ctx fd fs dest => Sys2Proof.Machine.execVftoi12 ctx fd fs dest s
  -- unit 0x6 PI
  | .pextlb ctx rd rs rt => Sys2Proof.Machine.execPextlb ctx rd rs rt s
  | .pextlh ctx rd rs rt => Sys2Proof.Machine.execPextlh ctx rd rs rt s
  | .pextlw ctx rd rs rt => Sys2Proof.Machine.execPextlw ctx rd rs rt s
  | .pextub ctx rd rs rt => Sys2Proof.Machine.execPextub ctx rd rs rt s
  | .pextuh ctx rd rs rt => Sys2Proof.Machine.execPextuh ctx rd rs rt s
  | .pextuw ctx rd rs rt => Sys2Proof.Machine.execPextuw ctx rd rs rt s
  | .ppacb ctx rd rs rt => Sys2Proof.Machine.execPpacb ctx rd rs rt s
  | .ppach ctx rd rs rt => Sys2Proof.Machine.execPpach ctx rd rs rt s
  | .ppacw ctx rd rs rt => Sys2Proof.Machine.execPpacw ctx rd rs rt s
  | .paddb ctx rd rs rt => Sys2Proof.Machine.execPaddb ctx rd rs rt s
  | .paddh ctx rd rs rt => Sys2Proof.Machine.execPaddh ctx rd rs rt s
  | .paddw ctx rd rs rt => Sys2Proof.Machine.execPaddw ctx rd rs rt s
  | .psubb ctx rd rs rt => Sys2Proof.Machine.execPsubb ctx rd rs rt s
  | .psubh ctx rd rs rt => Sys2Proof.Machine.execPsubh ctx rd rs rt s
  | .psubw ctx rd rs rt => Sys2Proof.Machine.execPsubw ctx rd rs rt s
  | .pceqb ctx rd rs rt => Sys2Proof.Machine.execPceqb ctx rd rs rt s
  | .pceqh ctx rd rs rt => Sys2Proof.Machine.execPceqh ctx rd rs rt s
  | .pceqw ctx rd rs rt => Sys2Proof.Machine.execPceqw ctx rd rs rt s
  | .pcgtb ctx rd rs rt => Sys2Proof.Machine.execPcgtb ctx rd rs rt s
  | .pcgth ctx rd rs rt => Sys2Proof.Machine.execPcgth ctx rd rs rt s
  | .pcgtw ctx rd rs rt => Sys2Proof.Machine.execPcgtw ctx rd rs rt s
  | .pmaxh ctx rd rs rt => Sys2Proof.Machine.execPmaxh ctx rd rs rt s
  | .pmaxw ctx rd rs rt => Sys2Proof.Machine.execPmaxw ctx rd rs rt s
  | .pminh ctx rd rs rt => Sys2Proof.Machine.execPminh ctx rd rs rt s
  | .pminw ctx rd rs rt => Sys2Proof.Machine.execPminw ctx rd rs rt s
  | .psllh ctx rd rt sa => Sys2Proof.Machine.execPsllh ctx rd rt sa s
  | .psrlh ctx rd rt sa => Sys2Proof.Machine.execPsrlh ctx rd rt sa s
  | .psrah ctx rd rt sa => Sys2Proof.Machine.execPsrah ctx rd rt sa s
  | .psllw ctx rd rt sa => Sys2Proof.Machine.execPsllw ctx rd rt sa s
  | .psrlw ctx rd rt sa => Sys2Proof.Machine.execPsrlw ctx rd rt sa s
  | .psraw ctx rd rt sa => Sys2Proof.Machine.execPsraw ctx rd rt sa s
  | .plzcw ctx rd rs => Sys2Proof.Machine.execPlzcw ctx rd rs s
  -- unit 0x7 DM
  | .dmaTospr ctx rq rm rsp => Sys2Proof.Machine.execDmaTospr ctx rq rm rsp s
  | .dmaFromspr ctx rq rm rsp => Sys2Proof.Machine.execDmaFromspr ctx rq rm rsp s
  | .dmaTosprIl ctx rq rm rsp => Sys2Proof.Machine.execDmaTosprIl ctx rq rm rsp s
  | .dmaFromsprIl ctx rq rm rsp => Sys2Proof.Machine.execDmaFromsprIl ctx rq rm rsp s
  -- unit 0x8 NC
  | .ncall ctx rs => Sys2Proof.Machine.execNcall ctx rs s

end Sys2Proof.Machine
end

