-- ==== Sys2Proof/Machine/Accept.lean ====
section
/-! DEFINITION. One word taken from the command port and performed to completion (11_interfaces.md R62, R63;
30_encoding.md R114, R119). -/

namespace Sys2Proof.Machine

/-- A command is accepted: no transfer of its own has been made yet. -/
def beginCommand (s : State) : State := { s with ports := { s.ports with transfers := [] } }

/-- A command has ended: the report of R63; the list of inputs moves past a command that completed and stays at one that
was fatal (10_state.md R33; log entry 4); the next command draws other free values (log entry 6). -/
def endCommand (s : State) : State :=
  { s with
    inbox := if s.halted then s.inbox else s.inbox.tail
    ports := { s.ports with completion := some (if s.halted then .fatal else .done) }
    draws := s.draws + 1 }

/-- What a meaning answered, the command ended. -/
def finish : Res → Res
  | .next t => .next (endCommand t)
  | .fault r => .fault r
  | .refused r => .refused r

/-- A 64-bit word accepted, the first of the inputs: decoded, then its command performed, or F_ENC (R119). -/
def acceptCommand (w : Dword) (s : State) : Res :=
  match decodeWord s.cfg.nctx w with
  | .error _ =>
    finish (.next (raiseFatal w { code := .enc, info0 := 0, info1 := 0, info2 := 0 } (beginCommand s)))
  | .ok i => finish (exec i (beginCommand s))

end Sys2Proof.Machine
end

