-- ==== Sys2Proof/Machine/HostPort.lean ====
section
/-! DEFINITION. What the host does between commands: the host access port (11_interfaces.md R66 to R70), its own stores into
the arena (R75), reset (70_reset_and_hazards.md R460). -/

namespace Sys2Proof.Machine

/-- A host read (R66 to R68): the objects of the map, 0 for anything else and, but for `STATUS`, for a context that does not
exist (R66, R67, U41). -/
def hostRead (s : State) (file : Fin 8) (ctx : Ctx) (idx : Fin 32) : Quad :=
  if file = 4 ∧ idx = 0 then (s.status &&& 1).setWidth 128
  else if s.cfg.nctx ≤ ctx.val then 0
  else match file.val with
  | 0 => s.x ctx idx
  | 1 => (s.f ctx idx).setWidth 128
  | 2 => s.vf ctx idx
  | 3 =>
    match idx.val with
    | 0 => s.acc ctx
    | 1 => (s.q ctx).setWidth 128
    | 2 => (s.i ctx).setWidth 128
    | 3 => s.hi ctx
    | 4 => s.lo ctx
    | _ => 0
  | 4 =>
    match idx.val with
    | 1 => (s.fcode &&& 0xFF).setWidth 128
    | 2 => s.fcmd.setWidth 128
    | 3 => s.finfo0.setWidth 128
    | 4 => s.finfo1.setWidth 128
    | 5 => s.finfo2.setWidth 128
    | 6 => s.rng.setWidth 128
    | _ => 0
  | _ => 0

/-- A 32-bit object under a host write: the low bits of the data and of the enables (R67). -/
def hostMerge32 (wmask : BitVec 16) (new : Quad) (old : Word) : Word :=
  (byteMerge wmask new (old.setWidth 128)).setWidth 32

/-- A host write (R66, R67, R69): the enabled bytes of a writable object; ignored for anything else and for a context that
does not exist (U41). -/
def hostWrite (s : State) (file : Fin 8) (ctx : Ctx) (idx : Fin 32) (wmask : BitVec 16) (new : Quad) : State :=
  if s.cfg.nctx ≤ ctx.val then s
  else match file.val with
  | 0 => s.setX ctx idx (byteMerge wmask new (s.x ctx idx))
  | 1 => s.setF ctx idx (hostMerge32 wmask new (s.f ctx idx))
  | 2 => s.setVf ctx idx (byteMerge wmask new (s.vfStored ctx idx))
  | 3 =>
    match idx.val with
    | 0 => s.setAcc ctx (byteMerge wmask new (s.acc ctx))
    | 1 => s.setQ ctx (hostMerge32 wmask new (s.q ctx))
    | 2 => s.setI ctx (hostMerge32 wmask new (s.i ctx))
    | 3 => s.setHi ctx (byteMerge wmask new (s.hi ctx))
    | 4 => s.setLo ctx (byteMerge wmask new (s.lo ctx))
    | _ => s
  | 4 => if idx.val = 6 then s.setRng (hostMerge32 wmask new s.rng) else s
  | _ => s

/-- One access served (R66); a write leaves the read data as it was (log entry 16). -/
def serveAccess (a : HostAccess) (s : State) : State :=
  if a.we then hostWrite s a.file a.ctx a.idx a.wmask a.wdata
  else { s with ports := { s.ports with hRdata := hostRead s a.file a.ctx a.idx } }

/-- The host's store of one arena byte; there is no byte at or above `ARENA_SIZE` (R75, 20_memory.md R81). -/
def serveArenaStore (addr : Nat) (value : Byte) (s : State) : State :=
  if addr < s.cfg.arenaSize then { s with arena := s.arena.setByte addr value } else s

/-- The arena range a store would write: nothing where its tests fail. -/
def storeSpan (s : State) (ea n : Nat) : Nat × Nat :=
  if (accessFault s.cfg.arenaSize ea ea n).isSome then (0, 0) else (ea, n)

/-- The arena range a DMA command to main memory would write: nothing where its tests fail. -/
def dmaSpan (s : State) (il : Bool) (o : DmaOperands) : Nat × Nat :=
  if (dmaFault il o (sourceSpan il o.qwc) (denseSpan il o.qwc) s.cfg.arenaSize).isSome then (0, 0)
  else (o.madr, denseSpan il o.qwc)

/-- The arena bytes a command could write, as a first address and a length (R460, U10): a store's own, a DMA
destination, or for NCALL every byte (48_native_call.md R411). No other command writes the arena. -/
def writableSpan (s : State) : Instr → Nat × Nat
  | .sb c _ base off => storeSpan s (s.ea c base off) 1
  | .sh c _ base off => storeSpan s (s.ea c base off) 2
  | .sw c _ base off => storeSpan s (s.ea c base off) 4
  | .sd c _ base off => storeSpan s (s.ea c base off) 8
  | .sq c _ base off => storeSpan s (s.ea c base off) 16
  | .swc1 c _ base off => storeSpan s (s.ea c base off) 4
  | .sqc2 c _ base off => storeSpan s (s.ea c base off) 16
  | .dmaFromspr c rq rm rsp => dmaSpan s false (s.dmaOperands c rq rm rsp)
  | .dmaFromsprIl c rq rm rsp => dmaSpan s true (s.dmaOperands c rq rm rsp)
  | .ncall _ _ => (0, s.cfg.arenaSize)
  | _ => (0, 0)

/-- The arena after reset: untouched, but for any value in the bytes a command in execution could write (R38, R460). A
halted block executes none. -/
def arenaAfterReset (during : Option Dword) (s : State) : Memory :=
  match during with
  | none => s.arena
  | some w =>
    if s.halted then s.arena
    else match decodeWord s.cfg.nctx w with
      | .error _ => s.arena
      | .ok i => s.arena.fill (writableSpan s i).1 (fun a => (s.any (0x20000 + a)).setWidth 8) (writableSpan s i).2

/-- The scratchpad after reset: every byte any value (R38). -/
def spadAfterReset (s : State) : Memory := Memory.fill [] 0 (fun a => (s.any (0x10000 + a)).setWidth 8) spadSize

/-- Reset (R460, R461): the six status registers 0 and the ports idle; every register but the hardwired ones, `RNG` and
every scratchpad byte any value; the arena as above. Log entry 14; for the ports' record, log entry 20. -/
def serveReset (during : Option Dword) (s : State) : State :=
  { s with
    ctxs   := Vector.ofFn (fun c : Fin 16 => Context.anyFrom (fun k => s.any (128 * c.val + k)))
    rng    := (s.any 0x1000).setWidth 32
    spad   := spadAfterReset s
    arena  := arenaAfterReset during s
    status := 0
    fcode  := 0
    fcmd   := 0
    finfo0 := 0
    finfo1 := 0
    finfo2 := 0
    ports  := Ports.silent
    draws  := s.draws + 1 }

/-- The waiting inputs without their first command. -/
def dropCommand : List Input → List Input
  | [] => []
  | .host e :: rest => .host e :: dropCommand rest
  | .command _ :: rest => rest

/-- One act of the host or the sequencer. -/
def serveHost (e : HostEvent) (s : State) : State :=
  match e with
  | .access a => serveAccess a s
  | .arenaStore addr value => serveArenaStore addr value s
  | .skip => { s with inbox := dropCommand s.inbox }
  | .reset during => serveReset during s

/-- The first act of the host among the waiting inputs, and the inputs without it: what a halted block can still take
(60_exceptions.md R423). Log entry 15. -/
def firstHost : List Input → Option (HostEvent × List Input)
  | [] => none
  | .host e :: rest => some (e, rest)
  | .command w :: rest => (firstHost rest).map (fun p => (p.1, .command w :: p.2))

end Sys2Proof.Machine
end

