-- ==== Sys2Proof/Machine/Step.lean ====
section
/-! DEFINITION. One step: the next input taken (60_exceptions.md R439, 11_interfaces.md R62, R66). With no input the block is
idle and the step is the identity (R438); a halted block takes no command (R423). -/

namespace Sys2Proof.Machine

/-- One step. -/
def step (s : State) : Host.Outcome State Fault Refusal :=
  if s.halted then
    match firstHost s.inbox with
    | none => .next s
    | some (e, rest) => .next (serveHost e { s with inbox := rest })
  else
    match s.inbox with
    | [] => .next s
    | .host e :: rest => .next (serveHost e { s with inbox := rest })
    | .command w :: _ => acceptCommand w s

/-- The command word `w` of `nbits` bits presented next on the command port. Log entry 4. -/
def State.withFetchWord (s : State) (nbits w : Nat) : State :=
  { s with inbox := .command (BitVec.ofNat 64 (w % 2 ^ nbits)) :: s.inbox }

end Sys2Proof.Machine
end

