-- ==== Sys2Proof/Safety.lean ====
section
/-! DEFINITION. The terms claims are stated in: the pieces of architectural state and what each holds, what a step leaves
alone, what a fatal is, the invariant, the bytes of a value. -/

namespace Sys2Proof.Machine

/-- A piece of architectural state (10_state.md R20). -/
inductive Loc where
  | x (c : Ctx) (r : Reg)
  | f (c : Ctx) (r : Reg)
  /-- The storage of a vector register, register 0's too (R28). -/
  | vf (c : Ctx) (r : Reg)
  | acc (c : Ctx)
  | q (c : Ctx)
  | i (c : Ctx)
  | hi (c : Ctx)
  | lo (c : Ctx)
  | rng
  | spad (a : Nat)
  | arena (a : Nat)
  | status
  | fcode
  | fcmd
  | finfo0
  | finfo1
  | finfo2
deriving DecidableEq, Repr

/-- What a piece of state holds, zero-extended to 128 bits. -/
def State.peek (s : State) : Loc → Quad
  | .x c r => s.x c r
  | .f c r => (s.f c r).setWidth 128
  | .vf c r => s.vfStored c r
  | .acc c => s.acc c
  | .q c => (s.q c).setWidth 128
  | .i c => (s.i c).setWidth 128
  | .hi c => s.hi c
  | .lo c => s.lo c
  | .rng => s.rng.setWidth 128
  | .spad a => (s.spad.byteAt a).setWidth 128
  | .arena a => (s.arena.byteAt a).setWidth 128
  | .status => s.status.setWidth 128
  | .fcode => s.fcode.setWidth 128
  | .fcmd => s.fcmd.setWidth 128
  | .finfo0 => s.finfo0.setWidth 128
  | .finfo1 => s.finfo1.setWidth 128
  | .finfo2 => s.finfo2.setWidth 128

/-- The context a piece of state belongs to; none for what all contexts share (R20). -/
def Loc.context : Loc → Option Ctx
  | .x c _ => some c
  | .f c _ => some c
  | .vf c _ => some c
  | .acc c => some c
  | .q c => some c
  | .i c => some c
  | .hi c => some c
  | .lo c => some c
  | _ => none

/-- Every piece of state outside `w` holds in `t` what it held in `s`. -/
def Untouched (w : Set Loc) (s t : State) : Prop := ∀ l, l ∉ w → t.peek l = s.peek l

/-- `Untouched`, and the parameters, the inputs still waiting and the counter of free values are as they were. -/
def Frame (w : Set Loc) (s t : State) : Prop :=
  Untouched w s t ∧ t.cfg = s.cfg ∧ t.inbox = s.inbox ∧ t.draws = s.draws

/-- The six status registers (R35). -/
def statusLocs : Set Loc := {.status, .fcode, .fcmd, .finfo0, .finfo1, .finfo2}

/-- The arena bytes from `a` on, `n` of them. -/
def arenaLocs (a n : Nat) : Set Loc := {l | ∃ k, k < n ∧ l = .arena (a + k)}

/-- The scratchpad bytes from `a` on, `n` of them. -/
def spadLocs (a n : Nat) : Set Loc := {l | ∃ k, k < n ∧ l = .spad (a + k)}

/-- Every register of a context. -/
def contextLocs (c : Ctx) : Set Loc := {l | l.context = some c}

/-- The meaning answers a next state, and that state has the property. -/
def Completes (r : Res) (p : State → Prop) : Prop := ∃ t, r = .next t ∧ p t

/-- `t` is `s` after `Fatal(code, i0, i1, i2)` raised by `word` (60_exceptions.md R421): the six registers written, the
report made, no transfer made, nothing else changed. -/
def FatalOutcome (word : Dword) (code i0 i1 i2 : Nat) (s t : State) : Prop :=
  Frame statusLocs s t ∧ t.status = 1 ∧ t.fcode.toNat = code ∧ t.fcmd = word ∧ t.finfo0.toNat = i0 ∧
    t.finfo1.toNat = i1 ∧ t.finfo2.toNat = i2 ∧ t.ports.completion = some .fatal ∧
    t.ports.transfers = s.ports.transfers

/-- The command raises `Fatal(code, i0, i1, i2)`. -/
def Raises (i : Instr) (code i0 i1 i2 : Nat) (s : State) : Prop :=
  Completes (exec i s) (FatalOutcome (encode i) code i0 i1 i2 s)

/-! Readings of a 128-bit value as integers (00_scope.md R10, R11). -/

/-- The low `n` bits, unsigned. -/
def lowU (n : Nat) (v : Quad) : Nat := v.toNat % 2 ^ n

/-- The low `n` bits as a two's-complement integer. -/
def lowS (n : Nat) (v : Quad) : Int := Int.bmod v.toNat (2 ^ n)

/-- Lane `i` of width `w`, unsigned. -/
def laneU (w : Nat) (v : Quad) (i : Nat) : Nat := v.toNat / 2 ^ (w * i) % 2 ^ w

/-- Lane `i` of width `w` as a two's-complement integer. -/
def laneS (w : Nat) (v : Quad) (i : Nat) : Int := Int.bmod (v.toNat / 2 ^ (w * i) : Nat) (2 ^ w)

/-- An integer taken modulo 2^32 and read as signed: `sext_32(v mod 2^32)`. -/
def wrap32 (v : Int) : Int := Int.bmod v (2 ^ 32)

/-- A 128-bit value with its bits 63:0 replaced by an integer modulo 2^64: `.d[0] <- v` (10_state.md R25). -/
def putD0 (old : Quad) (v : Int) : Nat := old.toNat / 2 ^ 64 * 2 ^ 64 + (v % 2 ^ 64).toNat

/-- `t` is `s` after `x[r].d[0] <- v`; register 0 discards it and reads 0 (R23, R25). -/
def WritesD0 (c : Ctx) (r : Reg) (v : Int) (s t : State) : Prop :=
  Frame {.x c r} s t ∧ (t.x c r).toNat = if r = 0 then 0 else putD0 (s.x c r) v

/-- `t` is `s` after `x[r] <- v`, all 128 bits; register 0 discards it and reads 0 (R23). -/
def WritesX (c : Ctx) (r : Reg) (v : Quad) (s t : State) : Prop :=
  Frame {.x c r} s t ∧ t.x c r = if r = 0 then 0 else v

/-- `t` is `s` with the `n` lanes of width `w` of `x[r]` written, lane `i` to `g i`; register 0 discards them. -/
def WritesLanes (c : Ctx) (r : Reg) (w n : Nat) (g : Nat → Nat) (s t : State) : Prop :=
  Frame {.x c r} s t ∧ ∀ i, i < n → laneU w (t.x c r) i = if r = 0 then 0 else g i

/-- The value of the `n` bytes from `a` on, the lowest address least significant (20_memory.md R84, R86). -/
def leBytes (m : Memory) (a n : Nat) : Nat := ∑ k ∈ Finset.range n, (m.byteAt (a + k)).toNat * 256 ^ k

/-- A binary32 NaN pattern with the quiet bit set (00_scope.md R14). -/
def IsQuietNaN (w : Word) : Prop := w.toNat % 2 ^ 31 / 2 ^ 22 = 0x1FF

/-! Float lanes: what `NUM` gives, the pattern of a NaN result being any quiet NaN (00_scope.md R14). -/

/-- `r` is `f32add(a, b)`. -/
def AddLane (a b r : Word) : Prop := ∃ n, IsQuietNaN n ∧ r = f32add n a b
/-- `r` is `f32sub(a, b)`. -/
def SubLane (a b r : Word) : Prop := ∃ n, IsQuietNaN n ∧ r = f32sub n a b
/-- `r` is `f32mul(a, b)`. -/
def MulLane (a b r : Word) : Prop := ∃ n, IsQuietNaN n ∧ r = f32mul n a b
/-- `r` is `f32div(a, b)`. -/
def DivLane (a b r : Word) : Prop := ∃ n, IsQuietNaN n ∧ r = f32div n a b
/-- `r` is `f32sqrt(a)`. -/
def SqrtLane (a r : Word) : Prop := ∃ n, IsQuietNaN n ∧ r = f32sqrt n a
/-- `r` is `f32add(acc, f32mul(a, b))`: two roundings (44_vu_arith.md R273). -/
def MulAddLane (acc a b r : Word) : Prop := ∃ p, MulLane a b p ∧ AddLane acc p r
/-- `r` is `f32sub(acc, f32mul(a, b))`. -/
def MulSubLane (acc a b r : Word) : Prop := ∃ p, MulLane a b p ∧ SubLane acc p r

/-- `t` is `s` after a masked write of `vf[fd]`: a selected lane holds a result `rel` allows, the others keep their bits
(44_vu_arith.md R270). -/
def MaskedVf (c : Ctx) (fd : Reg) (dest : Mask) (rel : Nat → Word → Prop) (s t : State) : Prop :=
  Frame {.vf c fd} s t ∧ ∀ i, i < 4 → if dest.getLsbD i = true then rel i (lane 32 (t.vfStored c fd) i)
    else lane 32 (t.vfStored c fd) i = lane 32 (s.vfStored c fd) i

/-- The same for `ACC`. -/
def MaskedAcc (c : Ctx) (dest : Mask) (rel : Nat → Word → Prop) (s t : State) : Prop :=
  Frame {.acc c} s t ∧ ∀ i, i < 4 → if dest.getLsbD i = true then rel i (lane 32 (t.acc c) i)
    else lane 32 (t.acc c) i = lane 32 (s.acc c) i

/-- A finite pattern's value in units of 2^-149. -/
def FloatValue (w : Word) (v : Int) : Prop := ∃ neg mag, floatView w = .fin neg mag ∧ v = signedMag neg mag

/-- The pattern is ±num/den units of 2^-149 rounded to nearest even: from half a place above the largest finite number on,
infinity; below, a finite pattern no other finite pattern is nearer than, its last bit 0 where one is as near. -/
def NearestEven (neg : Bool) (num den : Nat) (r : Word) : Prop :=
  r.msb = neg ∧
  ((2 ^ 25 - 1) * 2 ^ 252 * den ≤ num → floatView r = .inf neg) ∧
  (num < (2 ^ 25 - 1) * 2 ^ 252 * den → ∃ v, FloatValue r v ∧ ∀ w u, FloatValue w u →
    (v * den - signedMag neg num).natAbs ≤ (u * den - signedMag neg num).natAbs ∧
    ((v * den - signedMag neg num).natAbs = (u * den - signedMag neg num).natAbs → u ≠ v → r.getLsbD 0 = false))

/-! Words that are no command (30_encoding.md R114, R118). -/

/-- No row of the opcode map has the word's fixed bits and context numbers below `nctx`. -/
def IllegalWord (nctx : Nat) (w : Dword) : Prop :=
  ∀ i : Instr, w &&& i.format.mask = opcodeBits i.opcode.1 i.opcode.2 →
    nctx ≤ (w.extractLsb' 48 4).toNat ∨ (i.format = .C ∧ nctx ≤ (w.extractLsb' 43 4).toNat)

/-! DMA spans (47_dma.md R391). -/

/-- The span of an interleaved source of `qwc` quadwords. -/
def ilSourceSpan (qwc : Nat) : Nat := if qwc / 4 = 0 then 0 else 80 * (qwc / 4) - 16

/-- What every step keeps: the parameters allowed by 00_scope.md R9; both memories canonical and within their sizes
(20_memory.md R81, R83); `STATUS` 0 or 1, with an empty report while 0 and one of the six codes while 1 (11_interfaces.md
R71 to R74, 60_exceptions.md R424); nothing stored in register 0 (10_state.md R23). -/
structure StateInvariant (s : State) : Prop where
  cfg     : s.cfg.ok = true
  arena   : s.arena.wf = true
  arenaIn : s.arena.below s.cfg.arenaSize = true
  spad    : s.spad.wf = true
  spadIn  : s.spad.below spadSize = true
  report  : (s.status = 0 ∧ s.fcode = 0 ∧ s.fcmd = 0 ∧ s.finfo0 = 0 ∧ s.finfo1 = 0 ∧ s.finfo2 = 0) ∨
    (s.status = 1 ∧ 1 ≤ s.fcode.toNat ∧ s.fcode.toNat ≤ 6)
  zero    : ∀ c : Ctx, (s.bank c).x[0] = 0

end Sys2Proof.Machine
end

