-- ==== Sys2Proof/Certificates/Slice0/Obligations.lean ====
section
/-! DEFINITION. What the provers prove of the model, each statement from the spec's numbered rules. -/

open Sys2Proof Sys2Proof.Machine

/-! Encoding. -/

/-- One word of each unit, and two words that are no command, read from the spec's own encodings (30_encoding.md R118,
R124; 95_test_vectors.md). -/
def Obligations.DecodesSpecWords : Prop :=
  decodeWord 4 0x0031000000000000 = .ok (.vfcopy 1 0) ∧
  decodeWord 4 0x1011184400000000 = .ok (.addu 1 3 1 2) ∧
  decodeWord 4 0x20B0100000000103 = .ok (.ldr 0 2 0 0x0103) ∧
  decodeWord 4 0x30D0184400000000 = .ok (.pmulth 0 3 1 2) ∧
  decodeWord 4 0x40101844A0000000 = .ok (.vadd 0 3 1 2 0b0101) ∧
  decodeWord 4 0x5010004402000000 = .ok (.vdiv 0 1 2 1 0) ∧
  decodeWord 4 0x6010184400000000 = .ok (.pextlb 0 3 1 2) ∧
  decodeWord 4 0x7010310A00000000 = .ok (.dmaTospr 0 6 4 5) ∧
  decodeWord 4 0x8010064000000000 = .ok (.ncall 0 25) ∧
  decodeWord 4 0x0000000000000000 = .error .unassigned ∧
  decodeWord 4 0x1011184400400000 = .error .reservedBit ∧
  decodeWord 4 0x1014184400000000 = .error .noContext

/-- Decoding the word of a command whose contexts exist gives that command back, every operand at every value
(30_encoding.md R114, R124). -/
def Obligations.DecodeOfEncode : Prop :=
  ∀ (nctx : Nat) (i : Instr), i.wf nctx = true → decodeWord nctx (encode i) = .ok i

/-- A word that decodes is the word of the command it decodes to, and that command's contexts exist: no two words are one
command (30_encoding.md R114, R117, R124). -/
def Obligations.EncodeOfDecode : Prop :=
  ∀ (nctx : Nat) (w : Dword) (i : Instr), decodeWord nctx w = .ok i → encode i = w ∧ i.wf nctx = true

/-- A word is rejected exactly when no row of the opcode map has its fixed bits with its context numbers below `NCTX`; a
word that is accepted has the fixed bits of the row it decodes to and that command's fields in their places
(30_encoding.md R114, R118). -/
def Obligations.DecodeFollowsMap : Prop :=
  ∀ (nctx : Nat) (w : Dword),
    ((∃ e, decodeWord nctx w = .error e) ↔ IllegalWord nctx w) ∧
    (∀ i, decodeWord nctx w = .ok i → w &&& i.format.mask = opcodeBits i.opcode.1 i.opcode.2 ∧
      Fields.ofInstr i = Fields.ofWord w)

/-! The step. -/

/-- With a command word first among the inputs, the block not halted and the word that of a command `i`, a step is `exec i`
on the state with the transfer list emptied; after it the report is made, the list of inputs moves past a completed command
and stays at a fatal one, and the counter of free values moves on; where `exec i` stops, so does the step (10_state.md R33,
11_interfaces.md R62, R63). With nothing presented the step is the identity (60_exceptions.md R438); with a skip presented
first the next waiting command goes and nothing else changes. The inputs, the skip, the transfer list and the counter are
the model's (log entries 4, 15, 20 and 6). -/
def Obligations.StepRunsDecoded : Prop :=
  ∀ (s : State),
    (∀ w rest i, s.halted = false → s.inbox = .command w :: rest → decodeWord s.cfg.nctx w = .ok i →
      let s0 := { s with ports := { s.ports with transfers := [] } }
      (∀ t, exec i s0 = .next t → step s = .next
        { t with
          inbox := if t.halted then .command w :: rest else rest
          ports := { t.ports with completion := some (if t.halted then .fatal else .done) }
          draws := t.draws + 1 }) ∧
      (∀ f, exec i s0 = .fault f → step s = .fault f)) ∧
    (s.inbox = [] → step s = .next s) ∧
    (∀ w rest, s.inbox = .host .skip :: .command w :: rest → step s = .next { s with inbox := rest })

/-- A word that is no command is fatal F_ENC with the word in `FCMD`, and nothing else happens (30_encoding.md R119). The list
of inputs, the model's (log entry 4), stays where it is, as the list index of 10_state.md R33 does. -/
def Obligations.IllegalWordIsFatal : Prop :=
  ∀ (s : State) (w : Dword) (rest : List Input), s.halted = false → s.inbox = .command w :: rest →
    IllegalWord s.cfg.nctx w →
    Completes (step s) (fun t => Untouched statusLocs s t ∧ t.status = 1 ∧ t.fcode = 1 ∧ t.fcmd = w ∧ t.finfo0 = 0 ∧
      t.finfo1 = 0 ∧ t.finfo2 = 0 ∧ t.ports.completion = some .fatal ∧ t.inbox = s.inbox)

/-- Every accepted command that ends does so in one of two ways: reported done with the status registers as they were and
the list of inputs moved past it, or reported fatal with nothing but the status registers changed, `STATUS.FATAL` 1 and the
list where it was (11_interfaces.md R63, 60_exceptions.md R421, 10_state.md R33). That the list is a field of the state is
the model's choice (log entry 4). -/
def Obligations.CommandEndsDoneOrFatal : Prop :=
  ∀ (s t : State) (w : Dword) (rest : List Input), s.halted = false → s.inbox = .command w :: rest →
    step s = .next t →
    (t.ports.completion = some .done ∧ t.inbox = rest ∧ ∀ l, l ∈ statusLocs → t.peek l = s.peek l) ∨
    (t.ports.completion = some .fatal ∧ t.inbox = s.inbox ∧ t.status = 1 ∧ t.fcmd = w ∧ Untouched statusLocs s t ∧
      t.ports.transfers = [])

/-- A halted block takes no command; with no act of the host waiting its step is the identity; otherwise the step takes the
first such act, leaves the commands waiting (a skip drops the first), and unless that act is reset the block stays halted
with its reports and the scratchpad unchanged (60_exceptions.md R423). That a halted step takes the first act of the host
past the waiting commands, and that it is the identity where there is none (R423 allows a refusal too), is the model's
choice (log entry 15). -/
def Obligations.HaltedIsAbsorbing : Prop :=
  ∀ (s : State), s.halted = true →
    ((∀ e, Input.host e ∉ s.inbox) → step s = .next s) ∧
    ∀ e rest, firstHost s.inbox = some (e, rest) →
      (∀ w, Input.command w ∈ rest ↔ Input.command w ∈ s.inbox) ∧
      Completes (step s) (fun t => t.inbox = (if e = .skip then dropCommand rest else rest) ∧
        ((∀ d, e ≠ .reset d) → t.halted = true ∧ t.ports.completion = s.ports.completion ∧
          (∀ l, l ∈ statusLocs → t.peek l = s.peek l) ∧ ∀ a, t.spad.byteAt a = s.spad.byteAt a))

/-- The step never refuses, and it stops only where a native call's target never answers (60_exceptions.md R439,
48_native_call.md R411). That a silent target is a stop is the model's choice (log entry 13). -/
def Obligations.StepStopsOnlyInNativeCall : Prop :=
  ∀ (s : State), (∀ r, step s ≠ .refused r) ∧
    ((∃ f, step s = .fault f) ↔
      ∃ w rest c rs more, s.halted = false ∧ s.inbox = .command w :: rest ∧
        decodeWord s.cfg.nctx w = .ok (.ncall c rs) ∧ s.natives = .never :: more)

/-! The invariant and reset. -/

/-- The state right after reset meets the invariant. -/
def Obligations.ResetMeetsInvariant : Prop := StateInvariant State.reset

/-- Every step keeps the invariant: allowed parameters, canonical memories within their sizes, a consistent report, nothing
stored in general register 0 (20_memory.md R81, R83; 11_interfaces.md R71 to R74; 60_exceptions.md R424; 10_state.md R23). -/
def Obligations.StepKeepsInvariant : Prop :=
  ∀ (s t : State), StateInvariant s → step s = .next t → StateInvariant t

/-- After reset the six status registers are 0, the block is not halted, and the hardwired registers of every context read
their constants (10_state.md R38, 70_reset_and_hazards.md R461). -/
def Obligations.ResetState : Prop :=
  (∀ l, l ∈ statusLocs → State.reset.peek l = 0) ∧ State.reset.halted = false ∧
    ∀ c : Ctx, State.reset.x c 0 = 0 ∧ State.reset.vf c 0 = vf0Const

/-- Reset asserted by the host, from any state: the status registers 0, the ports idle, the hardwired registers as ever;
the arena keeps every byte, but for those the command it abandons could write (70_reset_and_hazards.md R460, R461). Reset as
an input is the model's (log entry 14), and so is the ports' record, its read data 0 after reset (log entry 20). -/
def Obligations.ResetEvent : Prop :=
  ∀ (s : State) (during : Option Dword) (rest : List Input), s.inbox = .host (.reset during) :: rest →
    s.arena.wf = true →
    Completes (step s) (fun t => (∀ l, l ∈ statusLocs → t.peek l = 0) ∧ t.halted = false ∧ t.inbox = rest ∧
      t.cfg = s.cfg ∧ t.ports = Ports.silent ∧ (∀ c : Ctx, t.x c 0 = 0 ∧ t.vf c 0 = vf0Const) ∧
      ∀ a, (∀ w i, during = some w → decodeWord s.cfg.nctx w = .ok i →
          ¬((writableSpan { s with inbox := rest } i).1 ≤ a ∧
            a < (writableSpan { s with inbox := rest } i).1 + (writableSpan { s with inbox := rest } i).2)) →
        t.arena.byteAt a = s.arena.byteAt a)

/-! Rules about every command. -/

/-- No command changes a register of a context other than the one it is against (10_state.md R21). -/
def Obligations.ContextIsolation : Prop :=
  ∀ (i : Instr) (s t : State), exec i s = .next t →
    ∀ l c, l.context = some c → c ≠ i.ctx → t.peek l = s.peek l

/-- A command of a unit other than SM and DM is never fatal: it leaves the six status registers alone (60_exceptions.md
R424, 10_state.md R35). -/
def Obligations.OnlyMemoryUnitsAreFatal : Prop :=
  ∀ (i : Instr) (s t : State), i.opcode.1 ≠ 0x2#4 → i.opcode.1 ≠ 0x7#4 → exec i s = .next t →
    ∀ l, l ∈ statusLocs → t.peek l = s.peek l

/-- Who may change what all contexts share: `RNG` only VRNEXT and VRXOR, a scratchpad byte only the DMA commands to the
scratchpad, an arena byte only the stores, the DMA commands to main memory and NCALL (10_state.md R32, 47_dma.md R397,
20_memory.md R80, 48_native_call.md R412). -/
def Obligations.SharedStateWriters : Prop :=
  ∀ (i : Instr) (s t : State), exec i s = .next t →
    (i.opcode ∉ [(0x5#4, 0x05#8), (0x5#4, 0x06#8)] → t.rng = s.rng) ∧
    (i.opcode ∉ [(0x7#4, 0x01#8), (0x7#4, 0x03#8)] → ∀ a, t.spad.byteAt a = s.spad.byteAt a) ∧
    (i.opcode ∉ [(0x2#4, 0x0C#8), (0x2#4, 0x0D#8), (0x2#4, 0x0E#8), (0x2#4, 0x0F#8), (0x2#4, 0x10#8), (0x2#4, 0x12#8),
        (0x2#4, 0x14#8), (0x7#4, 0x02#8), (0x7#4, 0x04#8), (0x8#4, 0x01#8)] →
      ∀ a, t.arena.byteAt a = s.arena.byteAt a)

/-- General register 0 reads 0 and vector register 0 reads (0, 0, 0, 1.0) in every state, whatever is stored; a write of
general register 0 of any width changes nothing, and no write makes vector register 0 read otherwise (10_state.md R23,
R28). -/
def Obligations.HardwiredRegisters : Prop :=
  ∀ (s : State) (c : Ctx) (v : Quad) (d : Dword) (w : Word),
    s.x c 0 = 0 ∧ s.setX c 0 v = s ∧ s.setXD c 0 d = s ∧ s.setXW c 0 w = s ∧
    lane 32 (s.vf c 0) 0 = 0x00000000#32 ∧ lane 32 (s.vf c 0) 1 = 0x00000000#32 ∧ lane 32 (s.vf c 0) 2 = 0x00000000#32 ∧
    lane 32 (s.vf c 0) 3 = 0x3F800000#32 ∧ (s.setVf c 0 v).vf c 0 = s.vf c 0 ∧
    ∀ r : Reg, r ≠ 0 → (s.setVf c 0 v).vf c r = s.vf c r

/-! The host access port. -/

/-- A host read delivers the object the map gives, its unused upper bits 0, or 0 where the map has nothing or, but for
`STATUS`, the context does not exist, and changes no state (11_interfaces.md R66, R67, R68). -/
def Obligations.HostReads : Prop :=
  ∀ (s : State) (a : HostAccess) (rest : List Input), s.inbox = .host (.access a) :: rest → a.we = false →
    Completes (step s) (fun t => Untouched ∅ s t ∧ t.inbox = rest ∧
      (a.ctx.val < s.cfg.nctx →
        (a.file = 0 → t.ports.hRdata = s.x a.ctx a.idx) ∧
        (a.file = 1 → t.ports.hRdata.toNat = (s.f a.ctx a.idx).toNat) ∧
        (a.file = 2 → t.ports.hRdata = s.vf a.ctx a.idx) ∧
        (a.file = 3 → a.idx = 0 → t.ports.hRdata = s.acc a.ctx) ∧
        (a.file = 3 → a.idx = 1 → t.ports.hRdata.toNat = (s.q a.ctx).toNat) ∧
        (a.file = 3 → a.idx = 2 → t.ports.hRdata.toNat = (s.i a.ctx).toNat) ∧
        (a.file = 3 → a.idx = 3 → t.ports.hRdata = s.hi a.ctx) ∧
        (a.file = 3 → a.idx = 4 → t.ports.hRdata = s.lo a.ctx) ∧
        (a.file = 4 → a.idx = 1 → t.ports.hRdata.toNat = s.fcode.toNat % 256) ∧
        (a.file = 4 → a.idx = 2 → t.ports.hRdata.toNat = s.fcmd.toNat) ∧
        (a.file = 4 → a.idx = 3 → t.ports.hRdata.toNat = s.finfo0.toNat) ∧
        (a.file = 4 → a.idx = 4 → t.ports.hRdata.toNat = s.finfo1.toNat) ∧
        (a.file = 4 → a.idx = 5 → t.ports.hRdata.toNat = s.finfo2.toNat) ∧
        (a.file = 4 → a.idx = 6 → t.ports.hRdata.toNat = s.rng.toNat)) ∧
      (a.file = 4 → a.idx = 0 → t.ports.hRdata.toNat = s.status.toNat % 2) ∧
      (s.cfg.nctx ≤ a.ctx.val → ¬(a.file = 4 ∧ a.idx = 0) → t.ports.hRdata = 0) ∧
      ((a.file = 3 ∧ 5 ≤ a.idx.val) ∨ (a.file = 4 ∧ 7 ≤ a.idx.val) ∨ 5 ≤ a.file.val → t.ports.hRdata = 0))

/-- A host write replaces the enabled bytes of the object the map gives, its own bytes alone, and nothing else; where the
map has no writable object, or the context does not exist, it changes no state (11_interfaces.md R66, R67, R69, R70). The
host's own store into the arena between commands writes that byte and nothing else (11_interfaces.md R75); that it is an
input of one byte, and that one past `ARENA_SIZE` stores nothing, is the model's choice (log entry 22). -/
def Obligations.HostWrites : Prop :=
  (∀ (s : State) (addr : Nat) (value : Byte) (rest : List Input), s.inbox = .host (.arenaStore addr value) :: rest →
    s.arena.wf = true → Completes (step s) (fun t => t.inbox = rest ∧
      (addr < s.cfg.arenaSize → Untouched {.arena addr} s t ∧ t.arena.byteAt addr = value) ∧
      (s.cfg.arenaSize ≤ addr → Untouched ∅ s t))) ∧
  ∀ (s : State) (a : HostAccess) (rest : List Input), s.inbox = .host (.access a) :: rest → a.we = true →
    let changes (l : Loc) (n : Nat) (t : State) := Untouched {l} s t ∧
      ∀ k, k < n → laneU 8 (t.peek l) k = if a.wmask.getLsbD k = true then laneU 8 a.wdata k else laneU 8 (s.peek l) k
    Completes (step s) (fun t => t.inbox = rest ∧
      (a.ctx.val < s.cfg.nctx →
        (a.file = 0 → a.idx ≠ 0 → changes (.x a.ctx a.idx) 16 t) ∧
        (a.file = 0 → a.idx = 0 → Untouched ∅ s t) ∧
        (a.file = 1 → changes (.f a.ctx a.idx) 4 t) ∧
        (a.file = 2 → changes (.vf a.ctx a.idx) 16 t) ∧
        (a.file = 3 → a.idx = 0 → changes (.acc a.ctx) 16 t) ∧
        (a.file = 3 → a.idx = 1 → changes (.q a.ctx) 4 t) ∧
        (a.file = 3 → a.idx = 2 → changes (.i a.ctx) 4 t) ∧
        (a.file = 3 → a.idx = 3 → changes (.hi a.ctx) 16 t) ∧
        (a.file = 3 → a.idx = 4 → changes (.lo a.ctx) 16 t) ∧
        (a.file = 4 → a.idx = 6 → changes .rng 4 t)) ∧
      (s.cfg.nctx ≤ a.ctx.val → Untouched ∅ s t) ∧
      ((a.file = 3 ∧ 5 ≤ a.idx.val) ∨ (a.file = 4 ∧ a.idx ≠ 6) ∨ 5 ≤ a.file.val → Untouched ∅ s t))

/-! Unit RF. -/

/-- NOP and the moves between the register files (40_regfile_ops.md R140, R143 to R146). -/
def Obligations.RegisterMoves : Prop :=
  ∀ (c : Ctx) (rd rs : Reg) (s : State),
    Completes (exec (.nop c) s) (fun t => t = s) ∧
    Completes (exec (.mfc1 c rd rs) s) (WritesD0 c rd (wrap32 (s.f c rs).toNat) s) ∧
    Completes (exec (.mtc1 c rd rs) s)
      (fun t => Frame {.f c rd} s t ∧ (t.f c rd).toNat = lowU 32 (s.x c rs)) ∧
    Completes (exec (.qmfc2 c rd rs) s) (WritesX c rd (s.vf c rs) s) ∧
    Completes (exec (.qmtc2 c rd rs) s) (fun t => Frame {.vf c rd} s t ∧ t.vfStored c rd = s.x c rs)

/-- CTXINIT completes, touches no register of another context and nothing the contexts share, and leaves the hardwired
registers reading their constants; what the others hold then is any value (40_regfile_ops.md R141). -/
def Obligations.ContextInit : Prop :=
  ∀ (c : Ctx) (s : State), Completes (exec (.ctxinit c) s)
    (fun t => Frame (contextLocs c) s t ∧ t.x c 0 = 0 ∧ t.vf c 0 = vf0Const)

/-- VFCOPY copies all 32 vector registers of one context into another and changes nothing else; onto itself it changes
nothing (40_regfile_ops.md R142). -/
def Obligations.VectorBankCopy : Prop :=
  ∀ (c sc : Ctx) (s : State), Completes (exec (.vfcopy c sc) s)
    (fun t => Frame {l | ∃ r, l = .vf c r} s t ∧ (∀ r, t.vfStored c r = s.vfStored sc r) ∧ (sc = c → t = s))

/-! Unit SA. -/

/-- 32-bit add and subtract wrap modulo 2^32 and sign-extend; 64-bit ones wrap modulo 2^64; LUI places and sign-extends
(41_scalar_alu.md R161 to R166, R174). -/
def Obligations.AddsAndSubtracts : Prop :=
  ∀ (c : Ctx) (rd rs rt : Reg) (imm : BitVec 16) (s : State),
    let a32 : Int := lowU 32 (s.x c rs)
    let b32 : Int := lowU 32 (s.x c rt)
    let a64 : Int := lowU 64 (s.x c rs)
    let b64 : Int := lowU 64 (s.x c rt)
    Completes (exec (.addu c rd rs rt) s) (WritesD0 c rd (wrap32 (a32 + b32)) s) ∧
    Completes (exec (.subu c rd rs rt) s) (WritesD0 c rd (wrap32 (a32 - b32)) s) ∧
    Completes (exec (.addiu c rd rs imm) s) (WritesD0 c rd (wrap32 (a32 + imm.toInt)) s) ∧
    Completes (exec (.daddu c rd rs rt) s) (WritesD0 c rd (a64 + b64) s) ∧
    Completes (exec (.dsubu c rd rs rt) s) (WritesD0 c rd (a64 - b64) s) ∧
    Completes (exec (.daddiu c rd rs imm) s) (WritesD0 c rd (a64 + imm.toInt) s) ∧
    Completes (exec (.lui c rd imm) s) (WritesD0 c rd (wrap32 ((imm.toNat : Int) * 2 ^ 16)) s)

/-- The bitwise commands on 64 bits; the immediates zero-extended (41_scalar_alu.md R167 to R173). -/
def Obligations.BitwiseLogic : Prop :=
  ∀ (c : Ctx) (rd rs rt : Reg) (imm : BitVec 16) (s : State),
    let a := lowU 64 (s.x c rs)
    let b := lowU 64 (s.x c rt)
    Completes (exec (.and c rd rs rt) s) (WritesD0 c rd (a &&& b : Nat) s) ∧
    Completes (exec (.or c rd rs rt) s) (WritesD0 c rd (a ||| b : Nat) s) ∧
    Completes (exec (.xor c rd rs rt) s) (WritesD0 c rd (a ^^^ b : Nat) s) ∧
    Completes (exec (.nor c rd rs rt) s) (WritesD0 c rd (2 ^ 64 - 1 - (a ||| b) : Nat) s) ∧
    Completes (exec (.andi c rd rs imm) s) (WritesD0 c rd (a &&& imm.toNat : Nat) s) ∧
    Completes (exec (.ori c rd rs imm) s) (WritesD0 c rd (a ||| imm.toNat : Nat) s) ∧
    Completes (exec (.xori c rd rs imm) s) (WritesD0 c rd (a ^^^ imm.toNat : Nat) s)

/-- 32-bit shifts, by an immediate and by a register reduced modulo 32, sign-extended (41_scalar_alu.md R175 to R180). -/
def Obligations.Shifts32 : Prop :=
  ∀ (c : Ctx) (rd rs rt : Reg) (sa : Fin 32) (s : State),
    let u := lowU 32 (s.x c rt)
    let n := lowU 32 (s.x c rs) % 32
    Completes (exec (.sll c rd rt sa) s) (WritesD0 c rd (wrap32 (u * 2 ^ sa.val : Nat)) s) ∧
    Completes (exec (.srl c rd rt sa) s) (WritesD0 c rd (wrap32 (u / 2 ^ sa.val : Nat)) s) ∧
    Completes (exec (.sra c rd rt sa) s) (WritesD0 c rd (lowS 32 (s.x c rt) / 2 ^ sa.val) s) ∧
    Completes (exec (.sllv c rd rs rt) s) (WritesD0 c rd (wrap32 (u * 2 ^ n : Nat)) s) ∧
    Completes (exec (.srlv c rd rs rt) s) (WritesD0 c rd (wrap32 (u / 2 ^ n : Nat)) s) ∧
    Completes (exec (.srav c rd rs rt) s) (WritesD0 c rd (lowS 32 (s.x c rt) / 2 ^ n) s)

/-- 64-bit shifts, by an immediate and by a register reduced modulo 64 (41_scalar_alu.md R181 to R186). -/
def Obligations.Shifts64 : Prop :=
  ∀ (c : Ctx) (rd rs rt : Reg) (sa : Fin 64) (s : State),
    let u := lowU 64 (s.x c rt)
    let n := lowU 32 (s.x c rs) % 64
    Completes (exec (.dsll c rd rt sa) s) (WritesD0 c rd (u * 2 ^ sa.val : Nat) s) ∧
    Completes (exec (.dsrl c rd rt sa) s) (WritesD0 c rd (u / 2 ^ sa.val : Nat) s) ∧
    Completes (exec (.dsra c rd rt sa) s) (WritesD0 c rd (lowS 64 (s.x c rt) / 2 ^ sa.val) s) ∧
    Completes (exec (.dsllv c rd rs rt) s) (WritesD0 c rd (u * 2 ^ n : Nat) s) ∧
    Completes (exec (.dsrlv c rd rs rt) s) (WritesD0 c rd (u / 2 ^ n : Nat) s) ∧
    Completes (exec (.dsrav c rd rs rt) s) (WritesD0 c rd (lowS 64 (s.x c rt) / 2 ^ n) s)

/-- The compares leave exactly 0 or 1; the conditional moves test all 64 bits and write nothing where the condition fails
(41_scalar_alu.md R187 to R192). -/
def Obligations.ComparesAndConditionalMoves : Prop :=
  ∀ (c : Ctx) (rd rs rt : Reg) (imm : BitVec 16) (s : State),
    Completes (exec (.slt c rd rs rt) s)
      (WritesD0 c rd (if lowS 64 (s.x c rs) < lowS 64 (s.x c rt) then 1 else 0) s) ∧
    Completes (exec (.sltu c rd rs rt) s)
      (WritesD0 c rd (if lowU 64 (s.x c rs) < lowU 64 (s.x c rt) then 1 else 0) s) ∧
    Completes (exec (.slti c rd rs imm) s) (WritesD0 c rd (if lowS 64 (s.x c rs) < imm.toInt then 1 else 0) s) ∧
    Completes (exec (.sltiu c rd rs imm) s)
      (WritesD0 c rd (if (lowU 64 (s.x c rs) : Int) < imm.toInt % 2 ^ 64 then 1 else 0) s) ∧
    Completes (exec (.movn c rd rs rt) s) (fun t =>
      (lowU 64 (s.x c rt) ≠ 0 → WritesD0 c rd (lowU 64 (s.x c rs)) s t) ∧ (lowU 64 (s.x c rt) = 0 → t = s)) ∧
    Completes (exec (.movz c rd rs rt) s) (fun t =>
      (lowU 64 (s.x c rt) = 0 → WritesD0 c rd (lowU 64 (s.x c rs)) s t) ∧ (lowU 64 (s.x c rt) ≠ 0 → t = s))

/-! Unit SM. -/

/-- The effective address: the low word of the base plus the signed offset, modulo 2^32 (20_memory.md R82). -/
def Obligations.EffectiveAddress : Prop :=
  ∀ (c : Ctx) (base : Reg) (off : BitVec 16) (s : State),
    (s.ea c base off : Int) = ((lowU 32 (s.x c base) : Int) + off.toInt) % 2 ^ 32 ∧
    (s.ea c 0 off : Int) = off.toInt % 2 ^ 32

/-- The loads narrower than a quadword, inside the arena and aligned (42_scalar_mem.md R201, R203 to R208). -/
def Obligations.NarrowLoads : Prop :=
  ∀ (c : Ctx) (rt base : Reg) (off : BitVec 16) (s : State),
    let ea := s.ea c base off
    let fits (n : Nat) := ea % n = 0 ∧ ea + n ≤ s.cfg.arenaSize
    let v (n : Nat) := leBytes s.arena ea n
    (fits 1 → Completes (exec (.lb c rt base off) s) (WritesD0 c rt (Int.bmod (v 1) (2 ^ 8)) s)) ∧
    (fits 1 → Completes (exec (.lbu c rt base off) s) (WritesD0 c rt (v 1) s)) ∧
    (fits 2 → Completes (exec (.lh c rt base off) s) (WritesD0 c rt (Int.bmod (v 2) (2 ^ 16)) s)) ∧
    (fits 2 → Completes (exec (.lhu c rt base off) s) (WritesD0 c rt (v 2) s)) ∧
    (fits 4 → Completes (exec (.lw c rt base off) s) (WritesD0 c rt (wrap32 (v 4)) s)) ∧
    (fits 8 → Completes (exec (.ld c rt base off) s) (WritesD0 c rt (v 8) s))

/-- The quadword load and the loads of the float and vector files (42_scalar_mem.md R209, R219, R221). -/
def Obligations.FileLoads : Prop :=
  ∀ (c : Ctx) (rt base : Reg) (off : BitVec 16) (s : State),
    let ea := s.ea c base off
    (ea % 16 = 0 → ea + 16 ≤ s.cfg.arenaSize → Completes (exec (.lq c rt base off) s)
      (fun t => Frame {.x c rt} s t ∧ (t.x c rt).toNat = if rt = 0 then 0 else leBytes s.arena ea 16)) ∧
    (ea % 4 = 0 → ea + 4 ≤ s.cfg.arenaSize → Completes (exec (.lwc1 c rt base off) s)
      (fun t => Frame {.f c rt} s t ∧ (t.f c rt).toNat = leBytes s.arena ea 4)) ∧
    (ea % 16 = 0 → ea + 16 ≤ s.cfg.arenaSize → Completes (exec (.lqc2 c rt base off) s)
      (fun t => Frame {.vf c rt} s t ∧ (t.vfStored c rt).toNat = leBytes s.arena ea 16))

/-- The stores, inside the arena and aligned: the bytes at the effective address hold the low bytes of the register, a
source of register 0 its constant, and every other byte and register keeps its value (42_scalar_mem.md R214 to R218, R220,
R222; 20_memory.md R94). -/
def Obligations.Stores : Prop :=
  ∀ (c : Ctx) (rt base : Reg) (off : BitVec 16) (s : State), s.arena.wf = true →
    let ea := s.ea c base off
    let stores (i : Instr) (n v : Nat) := ea % n = 0 → ea + n ≤ s.cfg.arenaSize →
      Completes (exec i s) (fun t => Frame (arenaLocs ea n) s t ∧ leBytes t.arena ea n = v)
    stores (.sb c rt base off) 1 (lowU 8 (s.x c rt)) ∧
    stores (.sh c rt base off) 2 (lowU 16 (s.x c rt)) ∧
    stores (.sw c rt base off) 4 (lowU 32 (s.x c rt)) ∧
    stores (.sd c rt base off) 8 (lowU 64 (s.x c rt)) ∧
    stores (.sq c rt base off) 16 (s.x c rt).toNat ∧
    stores (.swc1 c rt base off) 4 (s.f c rt).toNat ∧
    stores (.sqc2 c rt base off) 16 (s.vf c rt).toNat

/-- LWL and LWR byte by byte: the bytes taken from the aligned word and those kept, and the extension, always for LWL, only
at shift amount 0 for LWR (42_scalar_mem.md R202, R210, R211). -/
def Obligations.UnalignedWordLoads : Prop :=
  ∀ (c : Ctx) (rt base : Reg) (off : BitVec 16) (s : State), rt ≠ 0 →
    let ea := s.ea c base off
    let sh := ea % 4
    ea - sh + 4 ≤ s.cfg.arenaSize →
    Completes (exec (.lwl c rt base off) s) (fun t => Frame {.x c rt} s t ∧
      (∀ k, k < 4 → laneU 8 (t.x c rt) k =
        if k + sh < 3 then laneU 8 (s.x c rt) k else (s.arena.byteAt (ea + k - 3)).toNat) ∧
      lowS 64 (t.x c rt) = lowS 32 (t.x c rt) ∧ laneU 64 (t.x c rt) 1 = laneU 64 (s.x c rt) 1) ∧
    Completes (exec (.lwr c rt base off) s) (fun t => Frame {.x c rt} s t ∧
      (∀ k, k < 4 → laneU 8 (t.x c rt) k =
        if k + sh < 4 then (s.arena.byteAt (ea + k)).toNat else laneU 8 (s.x c rt) k) ∧
      (if sh = 0 then lowS 64 (t.x c rt) = lowS 32 (t.x c rt) else laneU 32 (t.x c rt) 1 = laneU 32 (s.x c rt) 1) ∧
      laneU 64 (t.x c rt) 1 = laneU 64 (s.x c rt) 1)

/-- LDL and LDR byte by byte (42_scalar_mem.md R202, R212, R213). -/
def Obligations.UnalignedDwordLoads : Prop :=
  ∀ (c : Ctx) (rt base : Reg) (off : BitVec 16) (s : State), rt ≠ 0 →
    let ea := s.ea c base off
    let sh := ea % 8
    ea - sh + 8 ≤ s.cfg.arenaSize →
    Completes (exec (.ldl c rt base off) s) (fun t => Frame {.x c rt} s t ∧
      (∀ k, k < 8 → laneU 8 (t.x c rt) k =
        if k + sh < 7 then laneU 8 (s.x c rt) k else (s.arena.byteAt (ea + k - 7)).toNat) ∧
      laneU 64 (t.x c rt) 1 = laneU 64 (s.x c rt) 1) ∧
    Completes (exec (.ldr c rt base off) s) (fun t => Frame {.x c rt} s t ∧
      (∀ k, k < 8 → laneU 8 (t.x c rt) k =
        if k + sh < 8 then (s.arena.byteAt (ea + k)).toNat else laneU 8 (s.x c rt) k) ∧
      laneU 64 (t.x c rt) 1 = laneU 64 (s.x c rt) 1)

/-- With register 0 as destination a load inside the arena completes and changes nothing but the memory port's record
(10_state.md R23, 42_scalar_mem.md R203). -/
def Obligations.LoadsToRegisterZero : Prop :=
  ∀ (c : Ctx) (base : Reg) (off : BitVec 16) (s : State) (i : Instr) (n : Nat),
    (i, n) ∈ [(.lb c 0 base off, 1), (.lbu c 0 base off, 1), (.lh c 0 base off, 2), (.lhu c 0 base off, 2),
      (.lw c 0 base off, 4), (.ld c 0 base off, 8), (.lq c 0 base off, 16)] ∧ s.ea c base off % n = 0 ∨
    (i, n) ∈ [(.lwl c 0 base off, 4), (.lwr c 0 base off, 4), (.ldl c 0 base off, 8), (.ldr c 0 base off, 8)] →
    s.ea c base off - s.ea c base off % n + n ≤ s.cfg.arenaSize →
    Completes (exec i s) (fun t => Frame ∅ s t ∧ t.ports.completion = s.ports.completion ∧
      t.ports.transfers.length = s.ports.transfers.length + 1)

/-- A misaligned access is fatal F_ALIGN before any transfer and any write, never split and never masked, inside the arena
or not (20_memory.md R87, R88; 42_scalar_mem.md R200). -/
def Obligations.MisalignedAccessIsFatal : Prop :=
  ∀ (c : Ctx) (rt base : Reg) (off : BitVec 16) (s : State) (i : Instr) (n : Nat),
    (i, n) ∈ [(.lh c rt base off, 2), (.lhu c rt base off, 2), (.sh c rt base off, 2), (.lw c rt base off, 4),
      (.sw c rt base off, 4), (.lwc1 c rt base off, 4), (.swc1 c rt base off, 4), (.ld c rt base off, 8),
      (.sd c rt base off, 8), (.lq c rt base off, 16), (.sq c rt base off, 16), (.lqc2 c rt base off, 16),
      (.sqc2 c rt base off, 16)] →
    s.ea c base off % n ≠ 0 → Raises i 2 (s.ea c base off) n 0 s

/-- An access past the end of the arena is fatal F_ARENA, reporting the first address of the access, for the unaligned
loads the aligned one (20_memory.md R90, 42_scalar_mem.md R200). -/
def Obligations.OutOfArenaIsFatal : Prop :=
  ∀ (c : Ctx) (rt base : Reg) (off : BitVec 16) (s : State) (i : Instr) (n : Nat),
    let ea := s.ea c base off
    ((i, n) ∈ [(.lb c rt base off, 1), (.lbu c rt base off, 1), (.sb c rt base off, 1), (.lh c rt base off, 2),
      (.lhu c rt base off, 2), (.sh c rt base off, 2), (.lw c rt base off, 4), (.sw c rt base off, 4),
      (.lwc1 c rt base off, 4), (.swc1 c rt base off, 4), (.ld c rt base off, 8), (.sd c rt base off, 8),
      (.lq c rt base off, 16), (.sq c rt base off, 16), (.lqc2 c rt base off, 16), (.sqc2 c rt base off, 16)] →
      ea % n = 0 → s.cfg.arenaSize < ea + n → Raises i 3 ea n 0 s) ∧
    ((i, n) ∈ [(.lwl c rt base off, 4), (.lwr c rt base off, 4), (.ldl c rt base off, 8), (.ldr c rt base off, 8)] →
      s.cfg.arenaSize < ea - ea % n + n → Raises i 3 (ea - ea % n) n 0 s)

/-- The left and right halves together, in either order, load the word or doubleword at any address; a pair is fatal
exactly when one of its two aligned accesses leaves the arena (42_scalar_mem.md R224). -/
def Obligations.UnalignedComposition : Prop :=
  ∀ (c : Ctx) (rt base : Reg) (hi lo : BitVec 16) (s : State), rt ≠ 0 → base ≠ rt → s.halted = false →
    let a := s.ea c base lo
    let pair (i j : Instr) (p : State → Prop) := Completes (exec i s) (fun t => Completes (exec j t) p)
    let fatal (i j : Instr) := Completes (exec i s) (fun t => t.halted = true ∨ Completes (exec j t) (fun u => u.halted = true))
    let inside (e n : Nat) := e - e % n + n ≤ s.cfg.arenaSize
    let loads (n : Nat) (ext : Int) (t : State) := Frame {.x c rt} s t ∧ lowU (8 * n) (t.x c rt) = leBytes s.arena a n ∧
      lowS 64 (t.x c rt) = ext ∧ laneU 64 (t.x c rt) 1 = laneU 64 (s.x c rt) 1
    let word := loads 4 (wrap32 (leBytes s.arena a 4))
    let dword := loads 8 (Int.bmod (leBytes s.arena a 8) (2 ^ 64))
    (s.ea c base hi = a + 3 →
      (inside a 4 ∧ inside (a + 3) 4 →
        pair (.lwl c rt base hi) (.lwr c rt base lo) word ∧ pair (.lwr c rt base lo) (.lwl c rt base hi) word ∧
        (a % 4 = 0 → Completes (exec (.lwl c rt base hi) s) word ∧ Completes (exec (.lwr c rt base lo) s) word)) ∧
      (¬(inside a 4 ∧ inside (a + 3) 4) →
        fatal (.lwl c rt base hi) (.lwr c rt base lo) ∧ fatal (.lwr c rt base lo) (.lwl c rt base hi))) ∧
    (s.ea c base hi = a + 7 →
      (inside a 8 ∧ inside (a + 7) 8 →
        pair (.ldl c rt base hi) (.ldr c rt base lo) dword ∧ pair (.ldr c rt base lo) (.ldl c rt base hi) dword) ∧
      (¬(inside a 8 ∧ inside (a + 7) 8) →
        fatal (.ldl c rt base hi) (.ldr c rt base lo) ∧ fatal (.ldr c rt base lo) (.ldl c rt base hi)))

/-- A load or store that is not fatal makes exactly one transfer on the memory port, of its own width; a DMA command that is
not fatal makes `qwc` transfers of 16 bytes, the arena's quadwords in ascending order with the bytes copied; a fatal one of
either unit makes none (11_interfaces.md R64). The record of transfers is the model's (log entry 20). -/
def Obligations.MemoryPortTransfers : Prop :=
  (∀ (c : Ctx) (rq rm rsp : Reg) (s t : State) (i : Instr) (il wr : Bool),
    (i, il, wr) ∈ [(.dmaTospr c rq rm rsp, false, false), (.dmaFromspr c rq rm rsp, false, true),
      (.dmaTosprIl c rq rm rsp, true, false), (.dmaFromsprIl c rq rm rsp, true, true)] →
    s.halted = false → exec i s = .next t →
    let m := lowU 32 (s.x c rm)
    let a := lowU 32 (s.x c rsp)
    let place (strided : Bool) (k : Nat) := if strided then 80 * (k / 4) + 16 * (k % 4) else 16 * k
    (t.halted = true ∧ t.ports.transfers = s.ports.transfers) ∨
    (t.halted = false ∧ ∃ ts, t.ports.transfers = s.ports.transfers ++ ts ∧ ts.length = lowU 32 (s.x c rq) ∧
      ∀ k tr, ts[k]? = some tr → tr.write = wr ∧ tr.len = 16 ∧ tr.addr = m + place (il && !wr) k ∧
        tr.data.toNat = if wr then leBytes s.spad (a + place il k) 16 else leBytes s.arena tr.addr 16)) ∧
  ∀ (i : Instr) (s t : State), i.opcode.1 = 0x2#4 → s.halted = false → exec i s = .next t →
    (t.halted = true ∧ t.ports.transfers = s.ports.transfers) ∨
    (t.halted = false ∧ ∃ tr, t.ports.transfers = s.ports.transfers ++ [tr] ∧
      tr.addr % tr.len = 0 ∧ tr.addr + tr.len ≤ s.cfg.arenaSize ∧
      (tr.write = true ↔ i.opcode.2.toNat ∈ [0x0C, 0x0D, 0x0E, 0x0F, 0x10, 0x12, 0x14]) ∧
      (tr.len = 1 ↔ i.opcode.2.toNat ∈ [0x01, 0x02, 0x0C]) ∧ (tr.len = 2 ↔ i.opcode.2.toNat ∈ [0x03, 0x04, 0x0D]) ∧
      (tr.len = 4 ↔ i.opcode.2.toNat ∈ [0x05, 0x08, 0x09, 0x0E, 0x11, 0x12]) ∧
      (tr.len = 8 ↔ i.opcode.2.toNat ∈ [0x06, 0x0A, 0x0B, 0x0F]) ∧
      (tr.len = 16 ↔ i.opcode.2.toNat ∈ [0x07, 0x10, 0x13, 0x14]))

/-! Unit MD. -/

/-- MULT and MULTU: the exact product's halves, sign-extended, to the pair and the low half to the destination
(43_scalar_muldiv.md R240, R241, R242). -/
def Obligations.Multiplies : Prop :=
  ∀ (c : Ctx) (rd rs rt : Reg) (s : State),
    let pair (p : Int) (t : State) := Frame {.lo c, .hi c, .x c rd} s t ∧
      (t.lo c).toNat = putD0 (s.lo c) (wrap32 p) ∧ (t.hi c).toNat = putD0 (s.hi c) (wrap32 (p / 2 ^ 32)) ∧
      (t.x c rd).toNat = if rd = 0 then 0 else putD0 (s.x c rd) (wrap32 p)
    Completes (exec (.mult c rd rs rt) s) (pair (lowS 32 (s.x c rs) * lowS 32 (s.x c rt))) ∧
    Completes (exec (.multu c rd rs rt) s) (pair (lowU 32 (s.x c rs) * lowU 32 (s.x c rt)))

/-- DIV and DIVU: quotient toward zero and remainder with the dividend's sign; the parameter `IDIV0` where the quotient
does not exist or does not fit; never a fatal (43_scalar_muldiv.md R240, R243, R244). -/
def Obligations.Divides : Prop :=
  ∀ (c : Ctx) (rs rt : Reg) (s : State),
    let wn := s.xw c rs
    let wd := s.xw c rt
    let pair (lo hi : Int) (t : State) := Frame {.lo c, .hi c} s t ∧ (t.lo c).toNat = putD0 (s.lo c) lo ∧
      (t.hi c).toNat = putD0 (s.hi c) hi
    Completes (exec (.div c rs rt) s)
      (let n := lowS 32 (s.x c rs)
       let d := lowS 32 (s.x c rt)
       if d ≠ 0 ∧ ¬(n = -(2 ^ 31) ∧ d = -1) then pair (Int.tdiv n d) (n - Int.tdiv n d * d)
       else pair (Config.idiv0 true wn wd).1.toNat (Config.idiv0 true wn wd).2.toNat) ∧
    Completes (exec (.divu c rs rt) s)
      (let n := lowU 32 (s.x c rs)
       let d := lowU 32 (s.x c rt)
       if d ≠ 0 then pair (wrap32 (n / d : Nat)) (wrap32 (n % d : Nat))
       else pair (Config.idiv0 false wn wd).1.toNat (Config.idiv0 false wn wd).2.toNat)

/-- The moves to and from the pair, 64 bits and whole (43_scalar_muldiv.md R245 to R252). -/
def Obligations.PairMoves : Prop :=
  ∀ (c : Ctx) (r : Reg) (s : State),
    Completes (exec (.mfhi c r) s) (WritesD0 c r (lowU 64 (s.hi c)) s) ∧
    Completes (exec (.mflo c r) s) (WritesD0 c r (lowU 64 (s.lo c)) s) ∧
    Completes (exec (.mthi c r) s) (fun t => Frame {.hi c} s t ∧ (t.hi c).toNat = putD0 (s.hi c) (lowU 64 (s.x c r))) ∧
    Completes (exec (.mtlo c r) s) (fun t => Frame {.lo c} s t ∧ (t.lo c).toNat = putD0 (s.lo c) (lowU 64 (s.x c r))) ∧
    Completes (exec (.pmfhi c r) s) (WritesX c r (s.hi c) s) ∧
    Completes (exec (.pmflo c r) s) (WritesX c r (s.lo c) s) ∧
    Completes (exec (.pmthi c r) s) (fun t => Frame {.hi c} s t ∧ t.hi c = s.x c r) ∧
    Completes (exec (.pmtlo c r) s) (fun t => Frame {.lo c} s t ∧ t.lo c = s.x c r)

/-- PMULTH and PMADDH: eight halfword products placed in the pair, raw or added to what it holds, and the even ones to a
destination other than register 0 (43_scalar_muldiv.md R253, R254). -/
def Obligations.PackedMultiplies : Prop :=
  ∀ (c : Ctx) (rd rs rt : Reg) (s : State),
    let p (i : Nat) : Int := laneS 16 (s.x c rs) i * laneS 16 (s.x c rt) i
    let placed (lo hi : Nat → Int) (t : State) := Frame {.lo c, .hi c, .x c rd} s t ∧
      (∀ i, i < 4 → (laneU 32 (t.lo c) i : Int) = lo i % 2 ^ 32) ∧
      (∀ i, i < 4 → (laneU 32 (t.hi c) i : Int) = hi i % 2 ^ 32) ∧
      (rd = 0 → t.x c rd = 0) ∧
      (rd ≠ 0 → (laneU 32 (t.x c rd) 0 : Int) = lo 0 % 2 ^ 32 ∧ (laneU 32 (t.x c rd) 1 : Int) = hi 0 % 2 ^ 32 ∧
        (laneU 32 (t.x c rd) 2 : Int) = lo 2 % 2 ^ 32 ∧ (laneU 32 (t.x c rd) 3 : Int) = hi 2 % 2 ^ 32)
    Completes (exec (.pmulth c rd rs rt) s)
      (placed (fun i => p ([0, 1, 4, 5].getD i 0)) (fun i => p ([2, 3, 6, 7].getD i 0))) ∧
    Completes (exec (.pmaddh c rd rs rt) s)
      (placed (fun i => laneU 32 (s.lo c) i + p ([0, 1, 4, 5].getD i 0))
        (fun i => laneU 32 (s.hi c) i + p ([2, 3, 6, 7].getD i 0)))

/-! Unit VA. -/

/-- Lane arithmetic, plain, broadcast, and with `Q` or `I`: each selected lane one rounding, the others kept bit for bit,
register 0 read as its constant (44_vu_arith.md R270 to R273, R275 to R280, R291 to R296). -/
def Obligations.LaneArithmetic : Prop :=
  ∀ (c : Ctx) (fd fs ft : Reg) (dest : Mask) (bc : Lane) (s : State),
    let S := lane 32 (s.vf c fs)
    let T := lane 32 (s.vf c ft)
    let B := lane 32 (s.vf c ft) bc.val
    Completes (exec (.vadd c fd fs ft dest) s) (MaskedVf c fd dest (fun i => AddLane (S i) (T i)) s) ∧
    Completes (exec (.vaddBc c fd fs ft dest bc) s) (MaskedVf c fd dest (fun i => AddLane (S i) B) s) ∧
    Completes (exec (.vsub c fd fs ft dest) s) (MaskedVf c fd dest (fun i => SubLane (S i) (T i)) s) ∧
    Completes (exec (.vsubBc c fd fs ft dest bc) s) (MaskedVf c fd dest (fun i => SubLane (S i) B) s) ∧
    Completes (exec (.vmul c fd fs ft dest) s) (MaskedVf c fd dest (fun i => MulLane (S i) (T i)) s) ∧
    Completes (exec (.vmulBc c fd fs ft dest bc) s) (MaskedVf c fd dest (fun i => MulLane (S i) B) s) ∧
    Completes (exec (.vaddq c fd fs dest) s) (MaskedVf c fd dest (fun i => AddLane (S i) (s.q c)) s) ∧
    Completes (exec (.vsubq c fd fs dest) s) (MaskedVf c fd dest (fun i => SubLane (S i) (s.q c)) s) ∧
    Completes (exec (.vmulq c fd fs dest) s) (MaskedVf c fd dest (fun i => MulLane (S i) (s.q c)) s) ∧
    Completes (exec (.vaddi c fd fs dest) s) (MaskedVf c fd dest (fun i => AddLane (S i) (s.i c)) s) ∧
    Completes (exec (.vsubi c fd fs dest) s) (MaskedVf c fd dest (fun i => SubLane (S i) (s.i c)) s) ∧
    Completes (exec (.vmuli c fd fs dest) s) (MaskedVf c fd dest (fun i => MulLane (S i) (s.i c)) s)

/-- The commands that start and continue a chain write `ACC` under the mask and nothing else (44_vu_arith.md R273, R274, R281
to R286). -/
def Obligations.AccumulatorWrites : Prop :=
  ∀ (c : Ctx) (fs ft : Reg) (dest : Mask) (bc : Lane) (s : State),
    let S := lane 32 (s.vf c fs)
    let T := lane 32 (s.vf c ft)
    let B := lane 32 (s.vf c ft) bc.val
    let A := lane 32 (s.acc c)
    Completes (exec (.vmula c fs ft dest) s) (MaskedAcc c dest (fun i => MulLane (S i) (T i)) s) ∧
    Completes (exec (.vmulaBc c fs ft dest bc) s) (MaskedAcc c dest (fun i => MulLane (S i) B) s) ∧
    Completes (exec (.vmadda c fs ft dest) s) (MaskedAcc c dest (fun i => MulAddLane (A i) (S i) (T i)) s) ∧
    Completes (exec (.vmaddaBc c fs ft dest bc) s) (MaskedAcc c dest (fun i => MulAddLane (A i) (S i) B) s) ∧
    Completes (exec (.vmsuba c fs ft dest) s) (MaskedAcc c dest (fun i => MulSubLane (A i) (S i) (T i)) s) ∧
    Completes (exec (.vmsubaBc c fs ft dest bc) s) (MaskedAcc c dest (fun i => MulSubLane (A i) (S i) B) s)

/-- The commands that end a chain write a vector register under the mask and leave `ACC` as it was (44_vu_arith.md R273,
R274, R287 to R290). -/
def Obligations.ChainEnds : Prop :=
  ∀ (c : Ctx) (fd fs ft : Reg) (dest : Mask) (bc : Lane) (s : State),
    let S := lane 32 (s.vf c fs)
    let T := lane 32 (s.vf c ft)
    let B := lane 32 (s.vf c ft) bc.val
    let A := lane 32 (s.acc c)
    Completes (exec (.vmadd c fd fs ft dest) s) (MaskedVf c fd dest (fun i => MulAddLane (A i) (S i) (T i)) s) ∧
    Completes (exec (.vmaddBc c fd fs ft dest bc) s) (MaskedVf c fd dest (fun i => MulAddLane (A i) (S i) B) s) ∧
    Completes (exec (.vmsub c fd fs ft dest) s) (MaskedVf c fd dest (fun i => MulSubLane (A i) (S i) (T i)) s) ∧
    Completes (exec (.vmsubBc c fd fs ft dest bc) s) (MaskedVf c fd dest (fun i => MulSubLane (A i) (S i) B) s)

/-- A chain of three commands leaves in every selected lane of the register and of `ACC` what the same five operations
give, rounded one by one in that order; the other lanes keep their bits (44_vu_arith.md R297). -/
def Obligations.ChainEquivalence : Prop :=
  ∀ (c : Ctx) (fd s0 s1 s0b s1b s0c s1c : Reg) (bc0 bc1 : Lane) (dest : Mask) (s : State),
    let L (r : Reg) := lane 32 (s.vf c r)
    Completes (exec (.vmulaBc c s0 s1 dest bc0) s) (fun t =>
      Completes (exec (.vmaddaBc c s0b s1b dest bc1) t) (fun u =>
        Completes (exec (.vmadd c fd s0c s1c dest) u) (fun v =>
          Frame {.acc c, .vf c fd} s v ∧
          ∀ i, i < 4 → if dest.getLsbD i = true then
            ∃ p q r, MulLane (L s0 i) (L s1 bc0.val) p ∧ MulLane (L s0b i) (L s1b bc1.val) q ∧
              AddLane p q (lane 32 (v.acc c) i) ∧ MulLane (L s0c i) (L s1c i) r ∧
              AddLane (lane 32 (v.acc c) i) r (lane 32 (v.vfStored c fd) i)
          else lane 32 (v.acc c) i = lane 32 (s.acc c) i ∧
            lane 32 (v.vfStored c fd) i = lane 32 (s.vfStored c fd) i)))

/-! `NUM`. -/

/-- The float primitives are IEEE's: each computes exactly and rounds once to nearest even, a root to the nearest number;
an exact zero sum is +0 unless both operands are -0, an exact zero difference +0 unless it is -0 minus +0 (00_scope.md
R14). Infinities and NaNs stand in `SpecialFloats`. -/
def Obligations.FloatsRoundToNearestEven : Prop :=
  (∀ (neg : Bool) (num den : Nat), 0 < den → NearestEven neg num den (roundFloat neg num den)) ∧
  (∀ a : Word, NearestEven a.msb (a.toInt.natAbs * 2 ^ 149) 1 (i32tof32 a)) ∧
  ∀ (n a b : Word) (u v : Int), FloatValue a u → FloatValue b v →
    (u + v ≠ 0 → NearestEven (decide (u + v < 0)) (u + v).natAbs 1 (f32add n a b)) ∧
    (u + v = 0 → (f32add n a b).toNat = if a.msb = true ∧ b.msb = true then 2 ^ 31 else 0) ∧
    (u - v ≠ 0 → NearestEven (decide (u - v < 0)) (u - v).natAbs 1 (f32sub n a b)) ∧
    (u - v = 0 → (f32sub n a b).toNat = if a.msb = true ∧ b.msb = false then 2 ^ 31 else 0) ∧
    NearestEven (a.msb ^^ b.msb) (u.natAbs * v.natAbs) (2 ^ 149) (f32mul n a b) ∧
    (v ≠ 0 → NearestEven (a.msb ^^ b.msb) (u.natAbs * 2 ^ 149) v.natAbs (f32div n a b)) ∧
    (0 < u → ∃ r, FloatValue (f32sqrt n a) r ∧ 0 < r ∧ ∀ w y, FloatValue w y → 0 ≤ y →
      (r < y → 4 * u * 2 ^ 149 ≤ (r + y) ^ 2) ∧ (y < r → (r + y) ^ 2 ≤ 4 * u * 2 ^ 149))

/-- Infinities, NaNs and the divisions by zero, none of them an error (00_scope.md R14, 60_exceptions.md R425): a NaN
operand, 0/0, inf/inf, inf - inf and 0 * inf give the free NaN; a number over zero and any sum, product or quotient with
an infinity give the infinity or zero IEEE gives. -/
def Obligations.SpecialFloats : Prop :=
  ∀ (n a b : Word),
    (floatView a = .nan ∨ floatView b = .nan → f32add n a b = n ∧ f32sub n a b = n ∧ f32mul n a b = n ∧ f32div n a b = n) ∧
    (∀ s t, floatView a = .inf s → floatView b = .inf t →
      (if s = t then f32add n a b = a ∧ f32sub n a b = n else f32add n a b = n ∧ f32sub n a b = a) ∧
      floatView (f32mul n a b) = .inf (s ^^ t) ∧ f32div n a b = n) ∧
    (∀ s v, floatView a = .inf s → FloatValue b v →
      f32add n a b = a ∧ f32add n b a = a ∧ f32sub n a b = a ∧ floatView (f32sub n b a) = .inf (!s) ∧
      (if v = 0 then f32mul n a b = n ∧ f32mul n b a = n
        else floatView (f32mul n a b) = .inf (s ^^ b.msb) ∧ floatView (f32mul n b a) = .inf (s ^^ b.msb)) ∧
      floatView (f32div n a b) = .inf (s ^^ b.msb) ∧ (f32div n b a).toNat = if s ^^ b.msb then 2 ^ 31 else 0) ∧
    (∀ v, FloatValue a v → FloatValue b 0 →
      if v = 0 then f32div n a b = n else floatView (f32div n a b) = .inf (a.msb ^^ b.msb)) ∧
    (floatView a = .nan → f32sqrt n a = n) ∧ (floatView a = .inf false → f32sqrt n a = a) ∧
    (FloatValue a 0 → f32sqrt n a = a)

/-! Unit VS. -/

/-- VDIV, VSQRT and VRSQRT write `Q` from the selected lanes, the root always of the absolute value (45_vu_special.md R310,
R312, R313, R314). -/
def Obligations.QuotientAndRoots : Prop :=
  ∀ (c : Ctx) (fs ft : Reg) (fsf ftf : Lane) (s : State),
    let a := lane 32 (s.vf c fs) fsf.val
    let b := lane 32 (s.vf c ft) ftf.val
    let absB := BitVec.ofNat 32 (b.toNat % 2 ^ 31)
    Completes (exec (.vdiv c fs ft fsf ftf) s) (fun t => Frame {.q c} s t ∧ DivLane a b (t.q c)) ∧
    Completes (exec (.vsqrt c ft ftf) s) (fun t => Frame {.q c} s t ∧ SqrtLane absB (t.q c)) ∧
    Completes (exec (.vrsqrt c fs ft fsf ftf) s)
      (fun t => Frame {.q c} s t ∧ ∃ r, SqrtLane absB r ∧ DivLane a r (t.q c))

/-- VRGET delivers `RNG` and leaves it; VRNEXT advances it once whatever the mask and delivers the new value; VRXOR mixes a
lane's pattern into it; all for any advance and mix functions (45_vu_special.md R311, R315, R316, R317). -/
def Obligations.RandomStream : Prop :=
  ∀ (c : Ctx) (fd : Reg) (dest : Mask) (fsf : Lane) (s : State),
    Completes (exec (.vrget c fd dest) s) (MaskedVf c fd dest (fun _ r => r = s.rng) s) ∧
    Completes (exec (.vrnext c fd dest) s) (fun t => Frame {.rng, .vf c fd} s t ∧ t.rng = Config.rngStep s.rng ∧
      ∀ i, i < 4 → lane 32 (t.vfStored c fd) i =
        if dest.getLsbD i = true then Config.rngStep s.rng else lane 32 (s.vfStored c fd) i) ∧
    Completes (exec (.vrxor c fd fsf) s) (fun t => Frame {.rng} s t ∧
      t.rng = Config.rngMix s.rng (lane 32 (s.vf c fd) fsf.val))

/-- The six conversions: a signed word to the nearest float, times the scale; a float times the scale, truncated toward
zero where a signed word can hold it, else any value (45_vu_special.md R318 to R323, 00_scope.md R14). -/
def Obligations.Conversions : Prop :=
  ∀ (c : Ctx) (fd fs : Reg) (dest : Mask) (s : State),
    let S := lane 32 (s.vf c fs)
    let truncates (f r : Word) := ∀ v, FloatValue f v → -(2 ^ 31) ≤ Int.tdiv v (2 ^ 149) →
      Int.tdiv v (2 ^ 149) < 2 ^ 31 → r.toInt = Int.tdiv v (2 ^ 149)
    Completes (exec (.vitof0 c fd fs dest) s) (MaskedVf c fd dest (fun i r => r = i32tof32 (S i)) s) ∧
    Completes (exec (.vitof12 c fd fs dest) s)
      (MaskedVf c fd dest (fun i => MulLane (i32tof32 (S i)) 0x39800000#32) s) ∧
    Completes (exec (.vitof15 c fd fs dest) s)
      (MaskedVf c fd dest (fun i => MulLane (i32tof32 (S i)) 0x38000000#32) s) ∧
    Completes (exec (.vftoi0 c fd fs dest) s) (MaskedVf c fd dest (fun i => truncates (S i)) s) ∧
    Completes (exec (.vftoi4 c fd fs dest) s)
      (MaskedVf c fd dest (fun i r => ∃ f, MulLane (S i) 0x41800000#32 f ∧ truncates f r) s) ∧
    Completes (exec (.vftoi12 c fd fs dest) s)
      (MaskedVf c fd dest (fun i r => ∃ f, MulLane (S i) 0x45800000#32 f ∧ truncates f r) s)

/-- Fixed-point round trips: a lane that is an exact multiple of 1/4096 (of 1) below 2^24 of them comes back bit for bit
through VFTOI12 and VITOF12 (VFTOI0 and VITOF0), a negative zero as zero (45_vu_special.md R324). The register between is
not 0, whose reads are a constant (R28). -/
def Obligations.ConversionRoundTrip : Prop :=
  ∀ (c : Ctx) (a b d : Reg) (s : State), b ≠ 0 →
    let back (unit : Int) (t : State) := ∀ (i : Nat) (k : Int), i < 4 → k.natAbs < 2 ^ 24 →
      FloatValue (lane 32 (s.vf c a) i) (k * unit) →
        lane 32 (t.vfStored c d) i = if k = 0 then 0 else lane 32 (s.vf c a) i
    Completes (exec (.vftoi12 c b a 15) s) (fun t => Completes (exec (.vitof12 c d b 15) t) (back (2 ^ 137))) ∧
    Completes (exec (.vftoi0 c b a 15) s) (fun t => Completes (exec (.vitof0 c d b 15) t) (back (2 ^ 149)))

/-! Unit PI. -/

/-- The interleaves pair the elements of the low or high halves, the packs gather the even elements, in both `rt`'s element
in the lower place; register 0 discards (46_packed_int.md R340, R341, R343 to R351). -/
def Obligations.PackedPermutations : Prop :=
  ∀ (c : Ctx) (rd rs rt : Reg) (s : State),
    let pairs (w n from_ : Nat) (t : State) := Frame {.x c rd} s t ∧ (rd = 0 → t.x c rd = 0) ∧
      (rd ≠ 0 → ∀ i, i < n → laneU w (t.x c rd) (2 * i) = laneU w (s.x c rt) (from_ + i) ∧
        laneU w (t.x c rd) (2 * i + 1) = laneU w (s.x c rs) (from_ + i))
    let evens (w n : Nat) (t : State) := Frame {.x c rd} s t ∧ (rd = 0 → t.x c rd = 0) ∧
      (rd ≠ 0 → ∀ i, i < n → laneU w (t.x c rd) i = laneU w (s.x c rt) (2 * i) ∧
        laneU w (t.x c rd) (n + i) = laneU w (s.x c rs) (2 * i))
    Completes (exec (.pextlb c rd rs rt) s) (pairs 8 8 0) ∧ Completes (exec (.pextlh c rd rs rt) s) (pairs 16 4 0) ∧
    Completes (exec (.pextlw c rd rs rt) s) (pairs 32 2 0) ∧ Completes (exec (.pextub c rd rs rt) s) (pairs 8 8 8) ∧
    Completes (exec (.pextuh c rd rs rt) s) (pairs 16 4 4) ∧ Completes (exec (.pextuw c rd rs rt) s) (pairs 32 2 2) ∧
    Completes (exec (.ppacb c rd rs rt) s) (evens 8 8) ∧ Completes (exec (.ppach c rd rs rt) s) (evens 16 4) ∧
    Completes (exec (.ppacw c rd rs rt) s) (evens 32 2)

/-- Packed add and subtract wrap in each lane (46_packed_int.md R340, R352 to R357). -/
def Obligations.PackedAdds : Prop :=
  ∀ (c : Ctx) (rd rs rt : Reg) (s : State),
    let add (w n : Nat) := WritesLanes c rd w n (fun i => (laneU w (s.x c rs) i + laneU w (s.x c rt) i) % 2 ^ w) s
    let sub (w n : Nat) := WritesLanes c rd w n
      (fun i => (laneU w (s.x c rs) i + (2 ^ w - laneU w (s.x c rt) i)) % 2 ^ w) s
    Completes (exec (.paddb c rd rs rt) s) (add 8 16) ∧ Completes (exec (.paddh c rd rs rt) s) (add 16 8) ∧
    Completes (exec (.paddw c rd rs rt) s) (add 32 4) ∧ Completes (exec (.psubb c rd rs rt) s) (sub 8 16) ∧
    Completes (exec (.psubh c rd rs rt) s) (sub 16 8) ∧ Completes (exec (.psubw c rd rs rt) s) (sub 32 4)

/-- Packed compares leave all ones or all zeros in each lane; maximum and minimum are signed (46_packed_int.md R340, R358 to
R367). -/
def Obligations.PackedCompares : Prop :=
  ∀ (c : Ctx) (rd rs rt : Reg) (s : State),
    let S := s.x c rs
    let T := s.x c rt
    let eq (w n : Nat) := WritesLanes c rd w n (fun i => if laneU w S i = laneU w T i then 2 ^ w - 1 else 0) s
    let gt (w n : Nat) := WritesLanes c rd w n (fun i => if laneS w S i > laneS w T i then 2 ^ w - 1 else 0) s
    let max (w n : Nat) := WritesLanes c rd w n (fun i => if laneS w S i > laneS w T i then laneU w S i else laneU w T i) s
    let min (w n : Nat) := WritesLanes c rd w n (fun i => if laneS w S i < laneS w T i then laneU w S i else laneU w T i) s
    Completes (exec (.pceqb c rd rs rt) s) (eq 8 16) ∧ Completes (exec (.pceqh c rd rs rt) s) (eq 16 8) ∧
    Completes (exec (.pceqw c rd rs rt) s) (eq 32 4) ∧ Completes (exec (.pcgtb c rd rs rt) s) (gt 8 16) ∧
    Completes (exec (.pcgth c rd rs rt) s) (gt 16 8) ∧ Completes (exec (.pcgtw c rd rs rt) s) (gt 32 4) ∧
    Completes (exec (.pmaxh c rd rs rt) s) (max 16 8) ∧ Completes (exec (.pmaxw c rd rs rt) s) (max 32 4) ∧
    Completes (exec (.pminh c rd rs rt) s) (min 16 8) ∧ Completes (exec (.pminw c rd rs rt) s) (min 32 4)

/-- Packed shifts move every lane by the same amount; PLZCW counts in its two low lanes the bits below the sign bit that
equal it (46_packed_int.md R340, R342, R368 to R374). -/
def Obligations.PackedShiftsAndCount : Prop :=
  ∀ (c : Ctx) (rd rs rt : Reg) (h : Fin 16) (w : Fin 32) (s : State),
    let T := s.x c rt
    Completes (exec (.psllh c rd rt h) s) (WritesLanes c rd 16 8 (fun i => laneU 16 T i * 2 ^ h.val % 2 ^ 16) s) ∧
    Completes (exec (.psrlh c rd rt h) s) (WritesLanes c rd 16 8 (fun i => laneU 16 T i / 2 ^ h.val) s) ∧
    Completes (exec (.psrah c rd rt h) s)
      (WritesLanes c rd 16 8 (fun i => (laneS 16 T i / 2 ^ h.val % 2 ^ 16).toNat) s) ∧
    Completes (exec (.psllw c rd rt w) s) (WritesLanes c rd 32 4 (fun i => laneU 32 T i * 2 ^ w.val % 2 ^ 32) s) ∧
    Completes (exec (.psrlw c rd rt w) s) (WritesLanes c rd 32 4 (fun i => laneU 32 T i / 2 ^ w.val) s) ∧
    Completes (exec (.psraw c rd rt w) s)
      (WritesLanes c rd 32 4 (fun i => (laneS 32 T i / 2 ^ w.val % 2 ^ 32).toNat) s) ∧
    Completes (exec (.plzcw c rd rs) s) (WritesLanes c rd 32 2 (fun i =>
      31 - Nat.size (if laneS 32 (s.x c rs) i < 0 then 2 ^ 32 - 1 - laneU 32 (s.x c rs) i else laneU 32 (s.x c rs) i)) s)

/-! Unit DM. -/

/-- The six tests of a DMA command in their order: the first that fails is the fatal raised, and nothing is copied
(47_dma.md R391, R392). -/
def Obligations.DmaPreconditions : Prop :=
  ∀ (c : Ctx) (rq rm rsp : Reg) (s : State),
    let q := lowU 32 (s.x c rq)
    let m := lowU 32 (s.x c rm)
    let a := lowU 32 (s.x c rsp)
    ∀ (i : Instr) (il : Bool) (sspan mspan : Nat),
      (i, il, sspan, mspan) ∈ [(.dmaTospr c rq rm rsp, false, 16 * q, 16 * q),
        (.dmaFromspr c rq rm rsp, false, 16 * q, 16 * q), (.dmaTosprIl c rq rm rsp, true, 64 * (q / 4), ilSourceSpan q),
        (.dmaFromsprIl c rq rm rsp, true, ilSourceSpan q, 64 * (q / 4))] →
      let t4 := il = true ∧ q % 4 ≠ 0
      let t5 := a ≥ 16384 ∨ a + sspan > 16384
      (m % 16 ≠ 0 → Raises i 2 m 16 0 s) ∧
      (m % 16 = 0 → a % 16 ≠ 0 → Raises i 2 a 16 1 s) ∧
      (m % 16 = 0 → a % 16 = 0 → q > 1024 → Raises i 5 q 1024 0 s) ∧
      (m % 16 = 0 → a % 16 = 0 → ¬q > 1024 → t4 → Raises i 6 q 4 0 s) ∧
      (m % 16 = 0 → a % 16 = 0 → ¬q > 1024 → ¬t4 → t5 → Raises i 4 a sspan 0 s) ∧
      (m % 16 = 0 → a % 16 = 0 → ¬q > 1024 → ¬t4 → ¬t5 → m + mspan > s.cfg.arenaSize → Raises i 3 m mspan 0 s)

/-- A DMA command whose tests pass copies exactly its bytes: dense, or four quadwords of every five of the source
(47_dma.md R390 to R396). -/
def Obligations.DmaCopies : Prop :=
  ∀ (c : Ctx) (rq rm rsp : Reg) (s : State), s.spad.wf = true → s.arena.wf = true →
    let q := lowU 32 (s.x c rq)
    let m := lowU 32 (s.x c rm)
    let a := lowU 32 (s.x c rsp)
    m % 16 = 0 → a % 16 = 0 → q ≤ 1024 → a < 16384 →
    (a + 16 * q ≤ 16384 → m + 16 * q ≤ s.cfg.arenaSize →
      Completes (exec (.dmaTospr c rq rm rsp) s) (fun t => Frame (spadLocs a (16 * q)) s t ∧
        ∀ k, k < 16 * q → t.spad.byteAt (a + k) = s.arena.byteAt (m + k)) ∧
      Completes (exec (.dmaFromspr c rq rm rsp) s) (fun t => Frame (arenaLocs m (16 * q)) s t ∧
        ∀ k, k < 16 * q → t.arena.byteAt (m + k) = s.spad.byteAt (a + k))) ∧
    (q % 4 = 0 → a + 64 * (q / 4) ≤ 16384 → m + ilSourceSpan q ≤ s.cfg.arenaSize →
      Completes (exec (.dmaTosprIl c rq rm rsp) s) (fun t => Frame (spadLocs a (64 * (q / 4))) s t ∧
        ∀ j k, j < q / 4 → k < 64 → t.spad.byteAt (a + 64 * j + k) = s.arena.byteAt (m + 80 * j + k))) ∧
    (q % 4 = 0 → a + ilSourceSpan q ≤ 16384 → m + 64 * (q / 4) ≤ s.cfg.arenaSize →
      Completes (exec (.dmaFromsprIl c rq rm rsp) s) (fun t => Frame (arenaLocs m (64 * (q / 4))) s t ∧
        ∀ j k, j < q / 4 → k < 64 → t.arena.byteAt (m + 64 * j + k) = s.spad.byteAt (a + 80 * j + k)))

/-- To the scratchpad and back with the same operands: the arena is as it was, and the scratchpad range equals the arena
range (47_dma.md R397). -/
def Obligations.DmaRoundTrip : Prop :=
  ∀ (c : Ctx) (rq rm rsp : Reg) (s : State), s.spad.wf = true → s.arena.wf = true →
    let q := lowU 32 (s.x c rq)
    let m := lowU 32 (s.x c rm)
    let a := lowU 32 (s.x c rsp)
    m % 16 = 0 → a % 16 = 0 → q ≤ 1024 → a < 16384 → a + 16 * q ≤ 16384 → m + 16 * q ≤ s.cfg.arenaSize →
    Completes (exec (.dmaTospr c rq rm rsp) s) (fun t => Completes (exec (.dmaFromspr c rq rm rsp) t) (fun u =>
      u.arena = s.arena ∧ ∀ k, k < 16 * q → u.spad.byteAt (a + k) = s.arena.byteAt (m + k)))

/-! Unit NC. -/

/-- NCALL presents the marshalled values, writes the 64-bit answer to the return register's low half and takes the stores
the target made; the rest of the block keeps its state; where the environment fixed no answer the result is some value; and
where its next answer is that the target stays silent, the meaning is the fault `nativeTargetSilent` (48_native_call.md
R410, R411). The list of answers, that a silent target is a fault, and that a store of the target outside the arena stores
nothing are the model's choices (log entry 13). -/
def Obligations.NativeCall : Prop :=
  ∀ (c : Ctx) (rs : Reg) (s : State),
    let req : NativeRequest :=
      { target := BitVec.ofNat 32 (lowU 32 (s.x c rs))
        args   := s.cfg.ncallArgs.map (fun r => BitVec.ofNat 64 (lowU 64 (s.x c r)))
        zero   := 0
        ctx0   := BitVec.ofNat 64 (lowU 64 (s.x c s.cfg.ncallCtx0))
        ctx1   := BitVec.ofNat 64 (lowU 64 (s.x c s.cfg.ncallCtx1)) }
    let ret := s.cfg.ncallRet
    let called (v : Dword) (t : State) := Frame ({.x c ret} ∪ {l | ∃ a, l = .arena a}) s t ∧
      (t.x c ret).toNat = (if ret = 0 then 0 else putD0 (s.x c ret) v.toNat) ∧ t.ports.native = some req
    (∀ v stores more, s.natives = .answers v stores :: more → Completes (exec (.ncall c rs) s) (fun t =>
      called v t ∧ t.natives = more ∧ t.arena = Memory.storeAll s.cfg.arenaSize s.arena stores)) ∧
    (s.natives = [] → Completes (exec (.ncall c rs) s) (fun t => (∃ v, called v t) ∧ t.natives = [])) ∧
    (∀ more, s.natives = .never :: more → exec (.ncall c rs) s = .fault .nativeTargetSilent)
end

