-- ==== Sys2Proof/Laws/Bits.lean ====
section
/-! SUPPORT. Lanes: what each lane of a built value is, and that equal lanes are equal values. -/

namespace Sys2Proof.Machine

theorem getLsbD_lane (w : Nat) (v : Quad) (i k : Nat) :
    (lane w v i).getLsbD k = (decide (k < w) && v.getLsbD (i * w + k)) := by
  simp [lane, BitVec.getLsbD_extractLsb']

theorem lane_toNat (w : Nat) (v : Quad) (i : Nat) : (lane w v i).toNat = v.toNat / 2 ^ (i * w) % 2 ^ w := by
  simp [lane, BitVec.extractLsb'_toNat, Nat.shiftRight_eq_div_pow]

theorem d0_toNat (v : Quad) : (d0 v).toNat = v.toNat % 2 ^ 64 := by
  simp [d0, BitVec.extractLsb'_toNat]

theorem w0_toNat (v : Quad) : (w0 v).toNat = v.toNat % 2 ^ 32 := by
  simp [w0, BitVec.extractLsb'_toNat]

theorem lane64_zero (v : Quad) : lane 64 v 0 = d0 v := by simp [lane, d0]
theorem lane32_zero (v : Quad) : lane 32 v 0 = w0 v := by simp [lane, w0]

theorem getLsbD_ofLanes {w : Nat} (hw : 0 < w) (g : Nat → BitVec w) (n k : Nat) (h : n * w ≤ 128) :
    (ofLanes w g n).getLsbD k = (decide (k < n * w) && (g (k / w)).getLsbD (k % w)) := by
  induction n with
  | zero => simp [ofLanes]
  | succ n ih =>
    have hn : (n + 1) * w = n * w + w := Nat.succ_mul n w
    have hle : n * w ≤ 128 := by omega
    simp only [ofLanes, BitVec.getLsbD_or, ih hle, BitVec.getLsbD_shiftLeft, BitVec.getLsbD_setWidth]
    rcases Nat.lt_or_ge k (n * w) with h1 | h1
    · have h2 : k < (n + 1) * w := by omega
      simp [h1, h2]
    · rcases Nat.lt_or_ge k ((n + 1) * w) with h2 | h2
      · have hd : k / w = n := by
          rw [Nat.div_eq_of_lt_le] <;> omega
        have hm : k % w = k - n * w := by
          have := Nat.div_add_mod k w
          rw [hd, Nat.mul_comm] at this
          omega
        have h3 : k < 128 := by omega
        have h4 : k - n * w < 128 := by omega
        simp [Nat.not_lt.mpr h1, h2, h3, hd, hm, h4]
      · have h5 : ¬ k < n * w := by omega
        have h6 : ¬ k < (n + 1) * w := by omega
        have h7 : w ≤ k - n * w := by omega
        simp [h5, h6, BitVec.getLsbD_of_ge _ _ h7]

theorem lane_ofLanes {w : Nat} (hw : 0 < w) (g : Nat → BitVec w) {n i : Nat} (h : n * w ≤ 128) (hi : i < n) :
    lane w (ofLanes w g n) i = g i := by
  apply BitVec.eq_of_getLsbD_eq
  intro k hk
  have h1 : i * w + k < n * w := by
    have : (i + 1) * w ≤ n * w := Nat.mul_le_mul_right w hi
    rw [Nat.succ_mul] at this
    omega
  have h2 : (i * w + k) / w = i := by
    rw [Nat.mul_comm, Nat.mul_add_div hw, Nat.div_eq_of_lt hk, Nat.add_zero]
  have h3 : (i * w + k) % w = k := by
    rw [Nat.mul_comm, Nat.mul_add_mod, Nat.mod_eq_of_lt hk]
  rw [getLsbD_lane, getLsbD_ofLanes hw g n _ h, h2, h3]
  simp [hk, h1]

/-- Two values with the same lanes are the same value. -/
theorem eq_of_lanes {w n : Nat} (hw : 0 < w) (h : n * w = 128) {a b : Quad}
    (he : ∀ i, i < n → lane w a i = lane w b i) : a = b := by
  apply BitVec.eq_of_getLsbD_eq
  intro k hk
  have hd : k / w < n := by
    rw [Nat.div_lt_iff_lt_mul hw]; omega
  have hm : k % w < w := Nat.mod_lt k hw
  have key := congrArg (fun v => v.getLsbD (k % w)) (he (k / w) hd)
  simp only [getLsbD_lane, hm, decide_true, Bool.true_and] at key
  have hk' : k / w * w + k % w = k := by rw [Nat.mul_comm]; exact Nat.div_add_mod k w
  rwa [hk'] at key

theorem lane_maskMerge (dest : Mask) (r : Nat → Word) (old : Quad) {i : Nat} (hi : i < 4) :
    lane 32 (maskMerge dest r old) i = if dest.getLsbD i then r i else lane 32 old i :=
  lane_ofLanes (by decide) _ (by decide) hi

theorem lane_byteMerge (m : BitVec 16) (new old : Quad) {i : Nat} (hi : i < 16) :
    lane 8 (byteMerge m new old) i = if m.getLsbD i then lane 8 new i else lane 8 old i :=
  lane_ofLanes (by decide) _ (by decide) hi

theorem lane_mapLanes {w n : Nat} (hw : 0 < w) (h : n * w ≤ 128) (op : BitVec w → BitVec w) (a : Quad) {i : Nat}
    (hi : i < n) : lane w (mapLanes w n op a) i = op (lane w a i) := lane_ofLanes hw _ h hi

theorem lane_zipLanes {w n : Nat} (hw : 0 < w) (h : n * w ≤ 128) (op : BitVec w → BitVec w → BitVec w) (a b : Quad)
    {i : Nat} (hi : i < n) : lane w (zipLanes w n op a b) i = op (lane w a i) (lane w b i) := lane_ofLanes hw _ h hi

theorem lane_interleave {w n : Nat} (hw : 0 < w) (h : n * w ≤ 128) (from_ : Nat) (s t : Quad) {i : Nat} (hi : i < n) :
    lane w (interleave w n from_ s t) i =
      if i % 2 = 0 then lane w t (from_ + i / 2) else lane w s (from_ + i / 2) := lane_ofLanes hw _ h hi

theorem lane_packEven {w n : Nat} (hw : 0 < w) (h : n * w ≤ 128) (s t : Quad) {i : Nat} (hi : i < n) :
    lane w (packEven w n s t) i = if i < n / 2 then lane w t (2 * i) else lane w s (2 * (i - n / 2)) :=
  lane_ofLanes hw _ h hi

theorem setD0_toNat (v : Quad) (d : Dword) : (setD0 v d).toNat = v.toNat / 2 ^ 64 * 2 ^ 64 + d.toNat := by
  unfold setD0
  rw [BitVec.toNat_append, BitVec.extractLsb'_toNat, Nat.shiftRight_eq_div_pow, ← Nat.shiftLeft_add_eq_or_of_lt d.isLt,
    Nat.shiftLeft_eq]
  have : v.toNat / 2 ^ 64 < 2 ^ 64 := by
    rw [Nat.div_lt_iff_lt_mul (by decide)]; have := v.isLt; omega
  rw [Nat.mod_eq_of_lt this]

@[simp] theorem d0_setD0 (v : Quad) (d : Dword) : d0 (setD0 v d) = d := by
  apply BitVec.eq_of_toNat_eq
  rw [d0_toNat, setD0_toNat]
  have := d.isLt
  omega

theorem setW0_toNat (v : Quad) (w : Word) : (setW0 v w).toNat = v.toNat / 2 ^ 32 * 2 ^ 32 + w.toNat := by
  unfold setW0
  rw [BitVec.toNat_append, BitVec.extractLsb'_toNat, Nat.shiftRight_eq_div_pow, ← Nat.shiftLeft_add_eq_or_of_lt w.isLt,
    Nat.shiftLeft_eq]
  have : v.toNat / 2 ^ 32 < 2 ^ 96 := by
    rw [Nat.div_lt_iff_lt_mul (by decide)]; have := v.isLt; omega
  rw [Nat.mod_eq_of_lt this]

@[simp] theorem w0_setW0 (v : Quad) (w : Word) : w0 (setW0 v w) = w := by
  apply BitVec.eq_of_toNat_eq
  rw [w0_toNat, setW0_toNat]
  have := w.isLt
  omega

/-- The bits above 63 are kept (10_state.md R25). -/
@[simp] theorem setD0_high (v : Quad) (d : Dword) : lane 64 (setD0 v d) 1 = lane 64 v 1 := by
  apply BitVec.eq_of_toNat_eq
  rw [lane_toNat, lane_toNat, setD0_toNat]
  have := d.isLt
  omega

@[simp] theorem setD0_d0 (v : Quad) : setD0 v (d0 v) = v := by
  apply BitVec.eq_of_toNat_eq
  rw [setD0_toNat, d0_toNat]
  omega

end Sys2Proof.Machine
end

