-- ==== Sys2Proof/Laws/Decode.lean ====
section
/-! SUPPORT. The command word and its fields: reading fields and putting them together are inverse, and a mask acts field by
field (30_encoding.md R111, R124). -/

namespace Sys2Proof

theorem Fields.ofWord_toWord (f : Fields) : Fields.ofWord f.toWord = f := by
  obtain ⟨unit, fn, ctx, a, b, c, dest, bc, fsf, ftf, rsv, sa, imm16⟩ := f
  simp only [Fields.ofWord, Fields.toWord, Fields.mk.injEq]
  refine ⟨?_, ?_, ?_, ?_, ?_, ?_, ?_, ?_, ?_, ?_, ?_, ?_, ?_⟩ <;>
  · ext j hj
    simp only [BitVec.getElem_extractLsb', BitVec.getLsbD_or, BitVec.getLsbD_shiftLeft, BitVec.getLsbD_setWidth]
    interval_cases j <;> simp [BitVec.getLsbD_eq_getElem]

theorem Fields.toWord_ofWord (w : Dword) : (Fields.ofWord w).toWord = w := by
  apply BitVec.eq_of_getLsbD_eq
  intro j hj
  simp only [Fields.toWord, Fields.ofWord, BitVec.getLsbD_or, BitVec.getLsbD_shiftLeft, BitVec.getLsbD_setWidth,
    BitVec.getLsbD_extractLsb']
  interval_cases j <;> simp

theorem Fields.ofWord_injective {w w' : Dword} (h : Fields.ofWord w = Fields.ofWord w') : w = w' := by
  rw [← Fields.toWord_ofWord w, h, Fields.toWord_ofWord]

/-- A bitwise and of words is one of their fields. -/
theorem Fields.ofWord_and (w m : Dword) :
    Fields.ofWord (w &&& m) =
      { unit := (Fields.ofWord w).unit &&& (Fields.ofWord m).unit, fn := (Fields.ofWord w).fn &&& (Fields.ofWord m).fn,
        ctx := (Fields.ofWord w).ctx &&& (Fields.ofWord m).ctx, a := (Fields.ofWord w).a &&& (Fields.ofWord m).a,
        b := (Fields.ofWord w).b &&& (Fields.ofWord m).b, c := (Fields.ofWord w).c &&& (Fields.ofWord m).c,
        dest := (Fields.ofWord w).dest &&& (Fields.ofWord m).dest, bc := (Fields.ofWord w).bc &&& (Fields.ofWord m).bc,
        fsf := (Fields.ofWord w).fsf &&& (Fields.ofWord m).fsf, ftf := (Fields.ofWord w).ftf &&& (Fields.ofWord m).ftf,
        rsv := (Fields.ofWord w).rsv &&& (Fields.ofWord m).rsv, sa := (Fields.ofWord w).sa &&& (Fields.ofWord m).sa,
        imm16 := (Fields.ofWord w).imm16 &&& (Fields.ofWord m).imm16 } := by
  simp only [Fields.ofWord, BitVec.extractLsb'_and]

theorem Fields.ofWord_opcodeBits (unit : BitVec 4) (fn : BitVec 8) :
    Fields.ofWord (opcodeBits unit fn) = { Fields.base unit fn 0 with ctx := 0 } := by
  have h : opcodeBits unit fn = ({ Fields.base unit fn 0 with ctx := 0 } : Fields).toWord := by
    simp [Fields.toWord, Fields.base, opcodeBits]
  rw [h, Fields.ofWord_toWord]

theorem sa4_masked (sa : BitVec 4) : sa.setWidth 6 &&& 0x30#6 = 0#6 := by ext j hj; interval_cases j <;> simp
theorem sa5_masked (sa : BitVec 5) : sa.setWidth 6 &&& 0x20#6 = 0#6 := by ext j hj; interval_cases j <;> simp
theorem sctx_masked (c : BitVec 4) : c.setWidth 5 &&& 0x10#5 = 0#5 := by ext j hj; interval_cases j <;> simp

theorem and_ones4 (u : BitVec 4) : u &&& 15#4 = u := BitVec.and_allOnes
theorem and_ones8 (u : BitVec 8) : u &&& 255#8 = u := BitVec.and_allOnes

/-! Every bit a format does not use is 0 in a word built from the fields it uses (30_encoding.md R117, R124). -/

theorem masked_Z (u : BitVec 4) (fn : BitVec 8) (ctx : Ctx)  :
    (Fields.base u fn ctx).toWord &&& Format.Z.mask = opcodeBits u fn := by
  apply Fields.ofWord_injective
  rw [Fields.ofWord_and, Fields.ofWord_toWord, Fields.ofWord_opcodeBits]
  simp [Fields.base, Fields.ofWord, Format.mask, and_ones4, and_ones8]
theorem masked_C (u : BitVec 4) (fn : BitVec 8) (ctx : Ctx) (z : BitVec 4) :
    ({ Fields.base u fn ctx with a := z.setWidth 5 } : Fields).toWord &&& Format.C.mask = opcodeBits u fn := by
  apply Fields.ofWord_injective
  rw [Fields.ofWord_and, Fields.ofWord_toWord, Fields.ofWord_opcodeBits]
  simp [Fields.base, Fields.ofWord, Format.mask, and_ones4, and_ones8, sctx_masked]
theorem masked_R3 (u : BitVec 4) (fn : BitVec 8) (ctx : Ctx) (a : BitVec 5) (b : BitVec 5) (c : BitVec 5) :
    ({ Fields.base u fn ctx with a := a, b := b, c := c } : Fields).toWord &&& Format.R3.mask = opcodeBits u fn := by
  apply Fields.ofWord_injective
  rw [Fields.ofWord_and, Fields.ofWord_toWord, Fields.ofWord_opcodeBits]
  simp [Fields.base, Fields.ofWord, Format.mask, and_ones4, and_ones8]
theorem masked_R2B (u : BitVec 4) (fn : BitVec 8) (ctx : Ctx) (a : BitVec 5) (b : BitVec 5) :
    ({ Fields.base u fn ctx with a := a, b := b } : Fields).toWord &&& Format.R2B.mask = opcodeBits u fn := by
  apply Fields.ofWord_injective
  rw [Fields.ofWord_and, Fields.ofWord_toWord, Fields.ofWord_opcodeBits]
  simp [Fields.base, Fields.ofWord, Format.mask, and_ones4, and_ones8]
theorem masked_RDO (u : BitVec 4) (fn : BitVec 8) (ctx : Ctx) (a : BitVec 5) :
    ({ Fields.base u fn ctx with a := a } : Fields).toWord &&& Format.RDO.mask = opcodeBits u fn := by
  apply Fields.ofWord_injective
  rw [Fields.ofWord_and, Fields.ofWord_toWord, Fields.ofWord_opcodeBits]
  simp [Fields.base, Fields.ofWord, Format.mask, and_ones4, and_ones8]
theorem masked_RSO (u : BitVec 4) (fn : BitVec 8) (ctx : Ctx) (b : BitVec 5) :
    ({ Fields.base u fn ctx with b := b } : Fields).toWord &&& Format.RSO.mask = opcodeBits u fn := by
  apply Fields.ofWord_injective
  rw [Fields.ofWord_and, Fields.ofWord_toWord, Fields.ofWord_opcodeBits]
  simp [Fields.base, Fields.ofWord, Format.mask, and_ones4, and_ones8]
theorem masked_RST (u : BitVec 4) (fn : BitVec 8) (ctx : Ctx) (b : BitVec 5) (c : BitVec 5) :
    ({ Fields.base u fn ctx with b := b, c := c } : Fields).toWord &&& Format.RST.mask = opcodeBits u fn := by
  apply Fields.ofWord_injective
  rw [Fields.ofWord_and, Fields.ofWord_toWord, Fields.ofWord_opcodeBits]
  simp [Fields.base, Fields.ofWord, Format.mask, and_ones4, and_ones8]
theorem masked_RI (u : BitVec 4) (fn : BitVec 8) (ctx : Ctx) (a : BitVec 5) (b : BitVec 5) (imm16 : BitVec 16) :
    ({ Fields.base u fn ctx with a := a, b := b, imm16 := imm16 } : Fields).toWord &&& Format.RI.mask = opcodeBits u fn := by
  apply Fields.ofWord_injective
  rw [Fields.ofWord_and, Fields.ofWord_toWord, Fields.ofWord_opcodeBits]
  simp [Fields.base, Fields.ofWord, Format.mask, and_ones4, and_ones8]
theorem masked_LI (u : BitVec 4) (fn : BitVec 8) (ctx : Ctx) (a : BitVec 5) (imm16 : BitVec 16) :
    ({ Fields.base u fn ctx with a := a, imm16 := imm16 } : Fields).toWord &&& Format.LI.mask = opcodeBits u fn := by
  apply Fields.ofWord_injective
  rw [Fields.ofWord_and, Fields.ofWord_toWord, Fields.ofWord_opcodeBits]
  simp [Fields.base, Fields.ofWord, Format.mask, and_ones4, and_ones8]
theorem masked_SH4 (u : BitVec 4) (fn : BitVec 8) (ctx : Ctx) (a : BitVec 5) (c : BitVec 5) (z : BitVec 4) :
    ({ Fields.base u fn ctx with a := a, c := c, sa := z.setWidth 6 } : Fields).toWord &&& Format.SH4.mask = opcodeBits u fn := by
  apply Fields.ofWord_injective
  rw [Fields.ofWord_and, Fields.ofWord_toWord, Fields.ofWord_opcodeBits]
  simp [Fields.base, Fields.ofWord, Format.mask, and_ones4, and_ones8, sa4_masked]
theorem masked_SH5 (u : BitVec 4) (fn : BitVec 8) (ctx : Ctx) (a : BitVec 5) (c : BitVec 5) (z : BitVec 5) :
    ({ Fields.base u fn ctx with a := a, c := c, sa := z.setWidth 6 } : Fields).toWord &&& Format.SH5.mask = opcodeBits u fn := by
  apply Fields.ofWord_injective
  rw [Fields.ofWord_and, Fields.ofWord_toWord, Fields.ofWord_opcodeBits]
  simp [Fields.base, Fields.ofWord, Format.mask, and_ones4, and_ones8, sa5_masked]
theorem masked_SH6 (u : BitVec 4) (fn : BitVec 8) (ctx : Ctx) (a : BitVec 5) (c : BitVec 5) (z : BitVec 6) :
    ({ Fields.base u fn ctx with a := a, c := c, sa := z } : Fields).toWord &&& Format.SH6.mask = opcodeBits u fn := by
  apply Fields.ofWord_injective
  rw [Fields.ofWord_and, Fields.ofWord_toWord, Fields.ofWord_opcodeBits]
  simp [Fields.base, Fields.ofWord, Format.mask, and_ones4, and_ones8]
theorem masked_M (u : BitVec 4) (fn : BitVec 8) (ctx : Ctx) (a : BitVec 5) (b : BitVec 5) (imm16 : BitVec 16) :
    ({ Fields.base u fn ctx with a := a, b := b, imm16 := imm16 } : Fields).toWord &&& Format.M.mask = opcodeBits u fn := by
  apply Fields.ofWord_injective
  rw [Fields.ofWord_and, Fields.ofWord_toWord, Fields.ofWord_opcodeBits]
  simp [Fields.base, Fields.ofWord, Format.mask, and_ones4, and_ones8]
theorem masked_V3 (u : BitVec 4) (fn : BitVec 8) (ctx : Ctx) (a : BitVec 5) (b : BitVec 5) (c : BitVec 5) (dest : BitVec 4) :
    ({ Fields.base u fn ctx with a := a, b := b, c := c, dest := dest } : Fields).toWord &&& Format.V3.mask = opcodeBits u fn := by
  apply Fields.ofWord_injective
  rw [Fields.ofWord_and, Fields.ofWord_toWord, Fields.ofWord_opcodeBits]
  simp [Fields.base, Fields.ofWord, Format.mask, and_ones4, and_ones8]
theorem masked_V3B (u : BitVec 4) (fn : BitVec 8) (ctx : Ctx) (a : BitVec 5) (b : BitVec 5) (c : BitVec 5) (dest : BitVec 4) (bc : BitVec 2) :
    ({ Fields.base u fn ctx with a := a, b := b, c := c, dest := dest, bc := bc } : Fields).toWord &&& Format.V3B.mask = opcodeBits u fn := by
  apply Fields.ofWord_injective
  rw [Fields.ofWord_and, Fields.ofWord_toWord, Fields.ofWord_opcodeBits]
  simp [Fields.base, Fields.ofWord, Format.mask, and_ones4, and_ones8]
theorem masked_VA (u : BitVec 4) (fn : BitVec 8) (ctx : Ctx) (b : BitVec 5) (c : BitVec 5) (dest : BitVec 4) :
    ({ Fields.base u fn ctx with b := b, c := c, dest := dest } : Fields).toWord &&& Format.VA.mask = opcodeBits u fn := by
  apply Fields.ofWord_injective
  rw [Fields.ofWord_and, Fields.ofWord_toWord, Fields.ofWord_opcodeBits]
  simp [Fields.base, Fields.ofWord, Format.mask, and_ones4, and_ones8]
theorem masked_VAB (u : BitVec 4) (fn : BitVec 8) (ctx : Ctx) (b : BitVec 5) (c : BitVec 5) (dest : BitVec 4) (bc : BitVec 2) :
    ({ Fields.base u fn ctx with b := b, c := c, dest := dest, bc := bc } : Fields).toWord &&& Format.VAB.mask = opcodeBits u fn := by
  apply Fields.ofWord_injective
  rw [Fields.ofWord_and, Fields.ofWord_toWord, Fields.ofWord_opcodeBits]
  simp [Fields.base, Fields.ofWord, Format.mask, and_ones4, and_ones8]
theorem masked_V2 (u : BitVec 4) (fn : BitVec 8) (ctx : Ctx) (a : BitVec 5) (b : BitVec 5) (dest : BitVec 4) :
    ({ Fields.base u fn ctx with a := a, b := b, dest := dest } : Fields).toWord &&& Format.V2.mask = opcodeBits u fn := by
  apply Fields.ofWord_injective
  rw [Fields.ofWord_and, Fields.ofWord_toWord, Fields.ofWord_opcodeBits]
  simp [Fields.base, Fields.ofWord, Format.mask, and_ones4, and_ones8]
theorem masked_VQ (u : BitVec 4) (fn : BitVec 8) (ctx : Ctx) (b : BitVec 5) (c : BitVec 5) (fsf : BitVec 2) (ftf : BitVec 2) :
    ({ Fields.base u fn ctx with b := b, c := c, fsf := fsf, ftf := ftf } : Fields).toWord &&& Format.VQ.mask = opcodeBits u fn := by
  apply Fields.ofWord_injective
  rw [Fields.ofWord_and, Fields.ofWord_toWord, Fields.ofWord_opcodeBits]
  simp [Fields.base, Fields.ofWord, Format.mask, and_ones4, and_ones8]
theorem masked_VQ1 (u : BitVec 4) (fn : BitVec 8) (ctx : Ctx) (c : BitVec 5) (ftf : BitVec 2) :
    ({ Fields.base u fn ctx with c := c, ftf := ftf } : Fields).toWord &&& Format.VQ1.mask = opcodeBits u fn := by
  apply Fields.ofWord_injective
  rw [Fields.ofWord_and, Fields.ofWord_toWord, Fields.ofWord_opcodeBits]
  simp [Fields.base, Fields.ofWord, Format.mask, and_ones4, and_ones8]
theorem masked_VR (u : BitVec 4) (fn : BitVec 8) (ctx : Ctx) (a : BitVec 5) (dest : BitVec 4) :
    ({ Fields.base u fn ctx with a := a, dest := dest } : Fields).toWord &&& Format.VR.mask = opcodeBits u fn := by
  apply Fields.ofWord_injective
  rw [Fields.ofWord_and, Fields.ofWord_toWord, Fields.ofWord_opcodeBits]
  simp [Fields.base, Fields.ofWord, Format.mask, and_ones4, and_ones8]
theorem masked_VX (u : BitVec 4) (fn : BitVec 8) (ctx : Ctx) (b : BitVec 5) (fsf : BitVec 2) :
    ({ Fields.base u fn ctx with b := b, fsf := fsf } : Fields).toWord &&& Format.VX.mask = opcodeBits u fn := by
  apply Fields.ofWord_injective
  rw [Fields.ofWord_and, Fields.ofWord_toWord, Fields.ofWord_opcodeBits]
  simp [Fields.base, Fields.ofWord, Format.mask, and_ones4, and_ones8]
theorem masked_D (u : BitVec 4) (fn : BitVec 8) (ctx : Ctx) (a : BitVec 5) (b : BitVec 5) (c : BitVec 5) :
    ({ Fields.base u fn ctx with a := a, b := b, c := c } : Fields).toWord &&& Format.D.mask = opcodeBits u fn := by
  apply Fields.ofWord_injective
  rw [Fields.ofWord_and, Fields.ofWord_toWord, Fields.ofWord_opcodeBits]
  simp [Fields.base, Fields.ofWord, Format.mask, and_ones4, and_ones8]
theorem masked_N (u : BitVec 4) (fn : BitVec 8) (ctx : Ctx) (b : BitVec 5) :
    ({ Fields.base u fn ctx with b := b } : Fields).toWord &&& Format.N.mask = opcodeBits u fn := by
  apply Fields.ofWord_injective
  rw [Fields.ofWord_and, Fields.ofWord_toWord, Fields.ofWord_opcodeBits]
  simp [Fields.base, Fields.ofWord, Format.mask, and_ones4, and_ones8]

end Sys2Proof
end

