-- ==== Sys2Proof/Laws/Memory.lean ====
section
/-! SUPPORT. Byte memories: a read after a write, the canonical form kept by every operation, equal bytes are equal
memories (20_memory.md R85, R86, R94). -/

namespace Sys2Proof.Machine

theorem Memory.wfFrom_mono {m : Memory} {lo lo' : Nat} (h : m.wfFrom lo = true) (hl : lo' ≤ lo) : m.wfFrom lo' = true := by
  cases m with
  | nil => rfl
  | cons c m =>
    obtain ⟨b, u⟩ := c
    simp only [Memory.wfFrom, Bool.and_eq_true, decide_eq_true_eq] at h ⊢
    exact ⟨⟨by omega, h.1.2⟩, h.2⟩

theorem Memory.wfFrom_wf {m : Memory} {lo : Nat} (h : m.wfFrom lo = true) : m.wf = true := Memory.wfFrom_mono h (Nat.zero_le _)

theorem Memory.byteAt_lt {m : Memory} {lo a : Nat} (h : m.wfFrom lo = true) (ha : a < lo) :
    m.byteAt a = Memory.unlisted := by
  induction m generalizing lo with
  | nil => rfl
  | cons c m ih =>
    obtain ⟨b, u⟩ := c
    simp only [Memory.wfFrom, Bool.and_eq_true, decide_eq_true_eq] at h
    rw [Memory.byteAt, if_neg (by omega)]
    exact ih h.2 (by omega)

theorem Memory.byteAt_setByte_from {m : Memory} {lo : Nat} (h : m.wfFrom lo = true) (a : Nat) (v : Byte) (b : Nat) :
    (m.setByte a v).byteAt b = if b = a then v else m.byteAt b := by
  induction m generalizing lo with
  | nil =>
    simp only [Memory.setByte]
    split
    · next hv => simp [Memory.byteAt, hv]
    · simp only [Memory.byteAt]
      by_cases hb : b = a
      · simp [hb]
      · simp [hb, Ne.symm hb]
  | cons c m ih =>
    obtain ⟨d, u⟩ := c
    simp only [Memory.wfFrom, Bool.and_eq_true, decide_eq_true_eq] at h
    simp only [Memory.setByte]
    rcases Nat.lt_trichotomy a d with had | had | had
    · rw [if_pos had]
      by_cases hb : b = a
      · subst hb
        split
        · next hv =>
          rw [if_pos rfl, Memory.byteAt, if_neg (by omega), Memory.byteAt_lt h.2 (by omega)]
          exact hv.symm
        · simp [Memory.byteAt]
      · rw [if_neg hb]
        split
        · rfl
        · rw [Memory.byteAt, if_neg (Ne.symm hb)]
    · subst had
      rw [if_neg (by omega), if_pos rfl]
      by_cases hb : b = a
      · subst hb
        split
        · next hv => rw [if_pos rfl, Memory.byteAt_lt h.2 (by omega)]; exact hv.symm
        · simp [Memory.byteAt]
      · rw [if_neg hb]
        split
        · rw [Memory.byteAt, if_neg (Ne.symm hb)]
        · rw [Memory.byteAt, if_neg (Ne.symm hb), Memory.byteAt, if_neg (Ne.symm hb)]
    · rw [if_neg (by omega), if_neg (by omega)]
      by_cases hb : b = d
      · subst hb
        rw [Memory.byteAt, if_pos rfl, Memory.byteAt, if_pos rfl, if_neg (by omega)]
      · rw [Memory.byteAt, if_neg (Ne.symm hb), ih h.2, Memory.byteAt, if_neg (Ne.symm hb)]

/-- A byte read after a byte store. -/
theorem Memory.byteAt_setByte {m : Memory} (h : m.wf = true) (a : Nat) (v : Byte) (b : Nat) :
    (m.setByte a v).byteAt b = if b = a then v else m.byteAt b := Memory.byteAt_setByte_from h a v b

theorem Memory.wfFrom_setByte {m : Memory} {lo a : Nat} (h : m.wfFrom lo = true) (ha : lo ≤ a) (v : Byte) :
    (m.setByte a v).wfFrom lo = true := by
  induction m generalizing lo with
  | nil =>
    simp only [Memory.setByte]
    split
    · rfl
    · next hv => simp [Memory.wfFrom, ha, hv]
  | cons c m ih =>
    obtain ⟨d, u⟩ := c
    simp only [Memory.wfFrom, Bool.and_eq_true, decide_eq_true_eq] at h
    simp only [Memory.setByte]
    split
    · split
      · simp only [Memory.wfFrom, Bool.and_eq_true, decide_eq_true_eq]; exact h
      · next hd hv =>
        simp only [Memory.wfFrom, Bool.and_eq_true, decide_eq_true_eq]
        exact ⟨⟨ha, hv⟩, ⟨by omega, h.1.2⟩, h.2⟩
    · split
      · next hd =>
        subst hd
        split
        · exact Memory.wfFrom_mono h.2 (by omega)
        · next hv =>
          simp only [Memory.wfFrom, Bool.and_eq_true, decide_eq_true_eq]
          exact ⟨⟨ha, hv⟩, h.2⟩
      · simp only [Memory.wfFrom, Bool.and_eq_true, decide_eq_true_eq]
        exact ⟨h.1, ih h.2 (by omega)⟩

/-- A byte store keeps the canonical form. -/
theorem Memory.wf_setByte {m : Memory} (h : m.wf = true) (a : Nat) (v : Byte) : (m.setByte a v).wf = true :=
  Memory.wfFrom_setByte h (Nat.zero_le a) v

/-- A byte store below `n` lists nothing at or above `n`. -/
theorem Memory.below_setByte {m : Memory} {n a : Nat} (h : m.below n = true) (ha : a < n) (v : Byte) :
    (m.setByte a v).below n = true := by
  induction m with
  | nil => simp only [Memory.setByte]; split <;> simp [Memory.below, ha]
  | cons c m ih =>
    obtain ⟨d, u⟩ := c
    have e : ∀ (c : Host.Cell) (l : Memory), Memory.below n (c :: l) = (decide (c.1 < n) && Memory.below n l) :=
      fun _ _ => rfl
    rw [e, Bool.and_eq_true, decide_eq_true_eq] at h
    simp only [Memory.setByte]
    split_ifs <;> simp [e, h.1, h.2, ha, ih h.2]

/-- Equal bytes are equal memories. -/
theorem Memory.eq_of_bytes {m m' : Memory} (h : m.wf = true) (h' : m'.wf = true)
    (he : ∀ a, m.byteAt a = m'.byteAt a) : m = m' := by
  suffices H : ∀ (m m' : Memory) (lo : Nat), m.wfFrom lo = true → m'.wfFrom lo = true →
      (∀ a, m.byteAt a = m'.byteAt a) → m = m' from H m m' 0 h h' he
  clear h h' he m m'
  intro m
  induction m with
  | nil =>
    intro m' lo _ h' he
    cases m' with
    | nil => rfl
    | cons c m' =>
      obtain ⟨b, u⟩ := c
      simp only [Memory.wfFrom, Bool.and_eq_true, decide_eq_true_eq] at h'
      have := he b
      simp only [Memory.byteAt, if_true] at this
      exact absurd this.symm h'.1.2
  | cons c m ih =>
    intro m' lo h h' he
    obtain ⟨b, u⟩ := c
    simp only [Memory.wfFrom, Bool.and_eq_true, decide_eq_true_eq] at h
    cases m' with
    | nil =>
      have := he b
      simp only [Memory.byteAt, if_true] at this
      exact absurd this h.1.2
    | cons c' m' =>
      obtain ⟨b', u'⟩ := c'
      simp only [Memory.wfFrom, Bool.and_eq_true, decide_eq_true_eq] at h'
      have hb : b = b' := by
        rcases Nat.lt_trichotomy b b' with hlt | heq | hlt
        · have := he b
          rw [Memory.byteAt, if_pos rfl, Memory.byteAt, if_neg (by omega), Memory.byteAt_lt h'.2 (by omega)] at this
          exact absurd this h.1.2
        · exact heq
        · have := he b'
          rw [Memory.byteAt, if_neg (by omega), Memory.byteAt_lt h.2 (by omega), Memory.byteAt, if_pos rfl] at this
          exact absurd this.symm h'.1.2
      subst hb
      have hu : u = u' := by have := he b; simpa [Memory.byteAt] using this
      subst hu
      have ht : m = m' := by
        apply ih m' (b + 1) h.2 h'.2
        intro a
        by_cases hab : a = b
        · subst hab; rw [Memory.byteAt_lt h.2 (by omega), Memory.byteAt_lt h'.2 (by omega)]
        · have := he a
          simpa [Memory.byteAt, Ne.symm hab] using this
      rw [ht]

/-! `MemWrite` (R86). -/

theorem Memory.wf_write {m : Memory} (h : m.wf = true) (a n v : Nat) : (m.write a n v).wf = true := by
  induction n generalizing m a v with
  | zero => exact h
  | succ n ih => exact ih (Memory.wf_setByte h a _) ..

theorem Memory.below_write {m : Memory} {N : Nat} (h : m.below N = true) {a n : Nat} (hn : a + n ≤ N) (v : Nat) :
    (m.write a n v).below N = true := by
  induction n generalizing m a v with
  | zero => exact h
  | succ n ih => exact ih (Memory.below_setByte h (by omega) _) (by omega) _

/-- A byte read after a store of `n` bytes. -/
theorem Memory.byteAt_write {m : Memory} (h : m.wf = true) (a n v b : Nat) :
    (m.write a n v).byteAt b =
      if a ≤ b ∧ b < a + n then BitVec.ofNat 8 (v / 256 ^ (b - a)) else m.byteAt b := by
  induction n generalizing m a v with
  | zero => rw [if_neg (by omega)]; rfl
  | succ n ih =>
    rw [Memory.write, ih (Memory.wf_setByte h a _), Memory.byteAt_setByte h]
    by_cases hb : b = a
    · subst hb
      rw [if_neg (by omega), if_pos rfl, if_pos (by omega), Nat.sub_self, Nat.pow_zero, Nat.div_one]
    · by_cases hr : a ≤ b ∧ b < a + (n + 1)
      · have e : b - a = (b - (a + 1)) + 1 := by omega
        rw [if_pos (by omega), if_pos hr, e, Nat.pow_succ, Nat.mul_comm (256 ^ _), Nat.div_div_eq_div_mul]
      · rw [if_neg (by omega), if_neg hb, if_neg hr]

theorem Memory.byteAt_write_out {m : Memory} (h : m.wf = true) {a n v b : Nat} (hb : b < a ∨ a + n ≤ b) :
    (m.write a n v).byteAt b = m.byteAt b := by rw [Memory.byteAt_write h, if_neg (by omega)]

/-! `MemRead` (R86). -/

theorem Memory.read_lt (m : Memory) (a n : Nat) : m.read a n < 256 ^ n := by
  induction n generalizing a with
  | zero => simp [Memory.read]
  | succ n ih =>
    have h1 := ih (a + 1)
    have h2 := (m.byteAt a).isLt
    rw [Memory.read, Nat.pow_succ]
    omega

theorem Memory.read_congr {m m' : Memory} {a n : Nat} (h : ∀ k, k < n → m.byteAt (a + k) = m'.byteAt (a + k)) :
    m.read a n = m'.read a n := by
  induction n generalizing a with
  | zero => rfl
  | succ n ih =>
    have h0 := h 0 (by omega)
    rw [Nat.add_zero] at h0
    rw [Memory.read, Memory.read, h0, ih (a := a + 1)]
    intro k hk
    have := h (k + 1) (by omega)
    rwa [Nat.add_comm k 1, ← Nat.add_assoc] at this

/-- The bytes of a value read (R86). -/
theorem Memory.read_digit (m : Memory) (a n k : Nat) (hk : k < n) :
    m.read a n / 256 ^ k % 256 = (m.byteAt (a + k)).toNat := by
  induction n generalizing a k with
  | zero => omega
  | succ n ih =>
    have h2 := (m.byteAt a).isLt
    cases k with
    | zero => rw [Memory.read, Nat.pow_zero, Nat.div_one]; simp only [Nat.add_zero]; omega
    | succ k =>
      have h3 : m.read a (n + 1) / 256 = m.read (a + 1) n := by rw [Memory.read]; omega
      have h4 := ih (a + 1) k (by omega)
      rw [Nat.pow_succ, Nat.mul_comm (256 ^ k), ← Nat.div_div_eq_div_mul, h3, h4, Nat.add_assoc, Nat.add_comm 1 k]

theorem Memory.read_eq_leBytes (m : Memory) (a n : Nat) : m.read a n = leBytes m a n := by
  induction n generalizing a with
  | zero => rfl
  | succ n ih =>
    rw [Memory.read, ih, leBytes, leBytes, Finset.sum_range_succ', Finset.mul_sum]
    rw [Nat.add_comm]
    congr 1
    · apply Finset.sum_congr rfl
      intro k _
      rw [Nat.pow_succ, Nat.add_assoc, Nat.add_comm 1 k]
      ring
    · simp

theorem Memory.ofNat_read_eq (x : Byte) : BitVec.ofNat 8 x.toNat = x := by simp

/-- What was stored is read back (R85). -/
theorem Memory.read_write {m : Memory} (h : m.wf = true) (a n v : Nat) : (m.write a n v).read a n = v % 256 ^ n := by
  suffices H : ∀ (n a v : Nat) (m' : Memory),
      (∀ k, k < n → m'.byteAt (a + k) = BitVec.ofNat 8 (v / 256 ^ k)) → m'.read a n = v % 256 ^ n by
    apply H
    intro k hk
    rw [Memory.byteAt_write h, if_pos (by omega), Nat.add_sub_cancel_left]
  clear h m n a v
  intro n
  induction n with
  | zero => intro a v m' _; simp [Memory.read, Nat.mod_one]
  | succ n ih =>
    intro a v m' hb
    have h0 := hb 0 (by omega)
    have h1 := ih (a + 1) (v / 256) m' (by
      intro k hk
      have := hb (k + 1) (by omega)
      rw [Nat.add_comm k 1, ← Nat.add_assoc] at this
      rw [this, Nat.add_comm 1 k, Nat.pow_succ, Nat.mul_comm (256 ^ k), Nat.div_div_eq_div_mul])
    rw [Nat.add_zero, Nat.pow_zero, Nat.div_one] at h0
    rw [Memory.read, h0, h1, BitVec.toNat_ofNat, Nat.pow_succ 256 n, Nat.mul_comm (256 ^ n), Nat.mod_mul]

/-! Lists of stores, filling, copying. -/

theorem Memory.wf_storeAll {m : Memory} (h : m.wf = true) (size : Nat) (l : List Host.Cell) :
    (m.storeAll size l).wf = true := by
  induction l generalizing m with
  | nil => exact h
  | cons c l ih =>
    obtain ⟨a, v⟩ := c
    rw [Memory.storeAll]
    split
    · exact ih (Memory.wf_setByte h a v)
    · exact ih h

theorem Memory.below_storeAll {m : Memory} {size : Nat} (h : m.below size = true) (l : List Host.Cell) :
    (m.storeAll size l).below size = true := by
  induction l generalizing m with
  | nil => exact h
  | cons c l ih =>
    obtain ⟨a, v⟩ := c
    rw [Memory.storeAll]
    split
    · next ha => exact ih (Memory.below_setByte h ha v)
    · exact ih h

theorem Memory.wf_fill {m : Memory} (h : m.wf = true) (a : Nat) (g : Nat → Byte) (n : Nat) : (m.fill a g n).wf = true := by
  induction n generalizing m a with
  | zero => exact h
  | succ n ih => exact ih (Memory.wf_setByte h a _) _

theorem Memory.below_fill {m : Memory} {N : Nat} (h : m.below N = true) {a n : Nat} (hn : a + n ≤ N) (g : Nat → Byte) :
    (m.fill a g n).below N = true := by
  induction n generalizing m a with
  | zero => exact h
  | succ n ih => exact ih (Memory.below_setByte h (by omega) _) (by omega)

theorem Memory.byteAt_fill {m : Memory} (h : m.wf = true) (a : Nat) (g : Nat → Byte) (n b : Nat) :
    (m.fill a g n).byteAt b = if a ≤ b ∧ b < a + n then g b else m.byteAt b := by
  induction n generalizing m a with
  | zero => rw [if_neg (by omega)]; rfl
  | succ n ih =>
    rw [Memory.fill, ih (Memory.wf_setByte h a _), Memory.byteAt_setByte h]
    by_cases hb : b = a
    · subst hb; rw [if_neg (by omega), if_pos rfl, if_pos (by omega)]
    · by_cases hr : a ≤ b ∧ b < a + (n + 1)
      · rw [if_pos (by omega), if_pos hr]
      · rw [if_neg (by omega), if_neg hb, if_neg hr]

theorem Memory.wf_copyQuads {dst : Memory} (h : dst.wf = true) (src : Memory) (f g : Nat → Nat) (n : Nat) :
    (Memory.copyQuads src f g dst n).wf = true := by
  induction n with
  | zero => exact h
  | succ n ih => exact Memory.wf_write ih ..

theorem Memory.below_copyQuads {dst : Memory} {N base n : Nat} (h : dst.below N = true) (hn : base + 16 * n ≤ N)
    (src : Memory) (f : Nat → Nat) : (Memory.copyQuads src f (destAt base) dst n).below N = true := by
  induction n with
  | zero => exact h
  | succ n ih => exact Memory.below_write (ih (by omega)) (by unfold destAt; omega) _

/-- A byte read after a copy of `n` quadwords to `base` on (47_dma.md R393 to R396). -/
theorem Memory.byteAt_copyQuads {dst : Memory} (h : dst.wf = true) (src : Memory) (f : Nat → Nat) (base n b : Nat) :
    (Memory.copyQuads src f (destAt base) dst n).byteAt b =
      if base ≤ b ∧ b < base + 16 * n then src.byteAt (f ((b - base) / 16) + (b - base) % 16) else dst.byteAt b := by
  induction n with
  | zero => rw [if_neg (by omega)]; rfl
  | succ n ih =>
    rw [Memory.copyQuads, Memory.byteAt_write (Memory.wf_copyQuads h ..), ih]
    unfold destAt
    by_cases hr : base + 16 * n ≤ b ∧ b < base + 16 * n + 16
    · have hq : (b - base) / 16 = n := by omega
      have hm : b - (base + 16 * n) = (b - base) % 16 := by omega
      rw [if_pos hr, if_pos (by omega), hq, hm]
      apply BitVec.eq_of_toNat_eq
      rw [BitVec.toNat_ofNat, Memory.read_digit _ _ _ _ (by omega)]
    · rw [if_neg hr]
      by_cases h2 : base ≤ b ∧ b < base + 16 * n
      · rw [if_pos h2, if_pos (by omega)]
      · rw [if_neg h2, if_neg (by omega)]

theorem wf_reset_arena : State.reset.arena.wf = true := rfl
theorem wf_reset_spad : State.reset.spad.wf = true := rfl

end Sys2Proof.Machine
end

