-- ==== Sys2Proof/Laws/State.lean ====
section
/-! SUPPORT. The small lemmas of State: what each accessor and field is after each update, so that no proof unfolds an
update. -/

namespace Sys2Proof.Machine

theorem State.bank_setBank (s : State) (c d : Ctx) (k : Context) :
    (s.setBank c k).bank d = if d = c then k else s.bank d := by
  unfold State.bank State.setBank
  by_cases h : d = c
  · subst h; simp
  · rw [if_neg h]
    exact Vector.getElem_set_ne c.isLt d.isLt (fun e => h (Fin.ext e.symm))

@[simp] theorem State.bank_setBank_same (s : State) (c : Ctx) (k : Context) : (s.setBank c k).bank c = k := by
  rw [State.bank_setBank, if_pos rfl]

theorem State.bank_setBank_ne (s : State) {c d : Ctx} (k : Context) (h : d ≠ c) : (s.setBank c k).bank d = s.bank d := by
  rw [State.bank_setBank, if_neg h]

/-! An update of a register changes no field but `ctxs`. -/

@[simp] theorem State.cfg_setBank (s : State) (c : Ctx) (k : Context) : (s.setBank c k).cfg = s.cfg := rfl
@[simp] theorem State.rng_setBank (s : State) (c : Ctx) (k : Context) : (s.setBank c k).rng = s.rng := rfl
@[simp] theorem State.spad_setBank (s : State) (c : Ctx) (k : Context) : (s.setBank c k).spad = s.spad := rfl
@[simp] theorem State.arena_setBank (s : State) (c : Ctx) (k : Context) : (s.setBank c k).arena = s.arena := rfl
@[simp] theorem State.status_setBank (s : State) (c : Ctx) (k : Context) : (s.setBank c k).status = s.status := rfl
@[simp] theorem State.fcode_setBank (s : State) (c : Ctx) (k : Context) : (s.setBank c k).fcode = s.fcode := rfl
@[simp] theorem State.fcmd_setBank (s : State) (c : Ctx) (k : Context) : (s.setBank c k).fcmd = s.fcmd := rfl
@[simp] theorem State.finfo0_setBank (s : State) (c : Ctx) (k : Context) : (s.setBank c k).finfo0 = s.finfo0 := rfl
@[simp] theorem State.finfo1_setBank (s : State) (c : Ctx) (k : Context) : (s.setBank c k).finfo1 = s.finfo1 := rfl
@[simp] theorem State.finfo2_setBank (s : State) (c : Ctx) (k : Context) : (s.setBank c k).finfo2 = s.finfo2 := rfl
@[simp] theorem State.inbox_setBank (s : State) (c : Ctx) (k : Context) : (s.setBank c k).inbox = s.inbox := rfl
@[simp] theorem State.natives_setBank (s : State) (c : Ctx) (k : Context) : (s.setBank c k).natives = s.natives := rfl
@[simp] theorem State.ports_setBank (s : State) (c : Ctx) (k : Context) : (s.setBank c k).ports = s.ports := rfl
@[simp] theorem State.draws_setBank (s : State) (c : Ctx) (k : Context) : (s.setBank c k).draws = s.draws := rfl

@[simp] theorem State.cfg_setX (s : State) (c : Ctx) (r : Reg) (v : Quad) : (s.setX c r v).cfg = s.cfg := by unfold State.setX; split <;> rfl
@[simp] theorem State.rng_setX (s : State) (c : Ctx) (r : Reg) (v : Quad) : (s.setX c r v).rng = s.rng := by unfold State.setX; split <;> rfl
@[simp] theorem State.spad_setX (s : State) (c : Ctx) (r : Reg) (v : Quad) : (s.setX c r v).spad = s.spad := by unfold State.setX; split <;> rfl
@[simp] theorem State.arena_setX (s : State) (c : Ctx) (r : Reg) (v : Quad) : (s.setX c r v).arena = s.arena := by unfold State.setX; split <;> rfl
@[simp] theorem State.status_setX (s : State) (c : Ctx) (r : Reg) (v : Quad) : (s.setX c r v).status = s.status := by unfold State.setX; split <;> rfl
@[simp] theorem State.fcode_setX (s : State) (c : Ctx) (r : Reg) (v : Quad) : (s.setX c r v).fcode = s.fcode := by unfold State.setX; split <;> rfl
@[simp] theorem State.fcmd_setX (s : State) (c : Ctx) (r : Reg) (v : Quad) : (s.setX c r v).fcmd = s.fcmd := by unfold State.setX; split <;> rfl
@[simp] theorem State.finfo0_setX (s : State) (c : Ctx) (r : Reg) (v : Quad) : (s.setX c r v).finfo0 = s.finfo0 := by unfold State.setX; split <;> rfl
@[simp] theorem State.finfo1_setX (s : State) (c : Ctx) (r : Reg) (v : Quad) : (s.setX c r v).finfo1 = s.finfo1 := by unfold State.setX; split <;> rfl
@[simp] theorem State.finfo2_setX (s : State) (c : Ctx) (r : Reg) (v : Quad) : (s.setX c r v).finfo2 = s.finfo2 := by unfold State.setX; split <;> rfl
@[simp] theorem State.inbox_setX (s : State) (c : Ctx) (r : Reg) (v : Quad) : (s.setX c r v).inbox = s.inbox := by unfold State.setX; split <;> rfl
@[simp] theorem State.natives_setX (s : State) (c : Ctx) (r : Reg) (v : Quad) : (s.setX c r v).natives = s.natives := by unfold State.setX; split <;> rfl
@[simp] theorem State.ports_setX (s : State) (c : Ctx) (r : Reg) (v : Quad) : (s.setX c r v).ports = s.ports := by unfold State.setX; split <;> rfl
@[simp] theorem State.draws_setX (s : State) (c : Ctx) (r : Reg) (v : Quad) : (s.setX c r v).draws = s.draws := by unfold State.setX; split <;> rfl

@[simp] theorem State.cfg_setXD (s : State) (c : Ctx) (r : Reg) (v : Dword) : (s.setXD c r v).cfg = s.cfg := State.cfg_setX ..
@[simp] theorem State.rng_setXD (s : State) (c : Ctx) (r : Reg) (v : Dword) : (s.setXD c r v).rng = s.rng := State.rng_setX ..
@[simp] theorem State.spad_setXD (s : State) (c : Ctx) (r : Reg) (v : Dword) : (s.setXD c r v).spad = s.spad := State.spad_setX ..
@[simp] theorem State.arena_setXD (s : State) (c : Ctx) (r : Reg) (v : Dword) : (s.setXD c r v).arena = s.arena := State.arena_setX ..
@[simp] theorem State.status_setXD (s : State) (c : Ctx) (r : Reg) (v : Dword) : (s.setXD c r v).status = s.status := State.status_setX ..
@[simp] theorem State.fcode_setXD (s : State) (c : Ctx) (r : Reg) (v : Dword) : (s.setXD c r v).fcode = s.fcode := State.fcode_setX ..
@[simp] theorem State.fcmd_setXD (s : State) (c : Ctx) (r : Reg) (v : Dword) : (s.setXD c r v).fcmd = s.fcmd := State.fcmd_setX ..
@[simp] theorem State.finfo0_setXD (s : State) (c : Ctx) (r : Reg) (v : Dword) : (s.setXD c r v).finfo0 = s.finfo0 := State.finfo0_setX ..
@[simp] theorem State.finfo1_setXD (s : State) (c : Ctx) (r : Reg) (v : Dword) : (s.setXD c r v).finfo1 = s.finfo1 := State.finfo1_setX ..
@[simp] theorem State.finfo2_setXD (s : State) (c : Ctx) (r : Reg) (v : Dword) : (s.setXD c r v).finfo2 = s.finfo2 := State.finfo2_setX ..
@[simp] theorem State.inbox_setXD (s : State) (c : Ctx) (r : Reg) (v : Dword) : (s.setXD c r v).inbox = s.inbox := State.inbox_setX ..
@[simp] theorem State.natives_setXD (s : State) (c : Ctx) (r : Reg) (v : Dword) : (s.setXD c r v).natives = s.natives := State.natives_setX ..
@[simp] theorem State.ports_setXD (s : State) (c : Ctx) (r : Reg) (v : Dword) : (s.setXD c r v).ports = s.ports := State.ports_setX ..
@[simp] theorem State.draws_setXD (s : State) (c : Ctx) (r : Reg) (v : Dword) : (s.setXD c r v).draws = s.draws := State.draws_setX ..

@[simp] theorem State.cfg_setXW (s : State) (c : Ctx) (r : Reg) (v : Word) : (s.setXW c r v).cfg = s.cfg := State.cfg_setX ..
@[simp] theorem State.rng_setXW (s : State) (c : Ctx) (r : Reg) (v : Word) : (s.setXW c r v).rng = s.rng := State.rng_setX ..
@[simp] theorem State.spad_setXW (s : State) (c : Ctx) (r : Reg) (v : Word) : (s.setXW c r v).spad = s.spad := State.spad_setX ..
@[simp] theorem State.arena_setXW (s : State) (c : Ctx) (r : Reg) (v : Word) : (s.setXW c r v).arena = s.arena := State.arena_setX ..
@[simp] theorem State.status_setXW (s : State) (c : Ctx) (r : Reg) (v : Word) : (s.setXW c r v).status = s.status := State.status_setX ..
@[simp] theorem State.fcode_setXW (s : State) (c : Ctx) (r : Reg) (v : Word) : (s.setXW c r v).fcode = s.fcode := State.fcode_setX ..
@[simp] theorem State.fcmd_setXW (s : State) (c : Ctx) (r : Reg) (v : Word) : (s.setXW c r v).fcmd = s.fcmd := State.fcmd_setX ..
@[simp] theorem State.finfo0_setXW (s : State) (c : Ctx) (r : Reg) (v : Word) : (s.setXW c r v).finfo0 = s.finfo0 := State.finfo0_setX ..
@[simp] theorem State.finfo1_setXW (s : State) (c : Ctx) (r : Reg) (v : Word) : (s.setXW c r v).finfo1 = s.finfo1 := State.finfo1_setX ..
@[simp] theorem State.finfo2_setXW (s : State) (c : Ctx) (r : Reg) (v : Word) : (s.setXW c r v).finfo2 = s.finfo2 := State.finfo2_setX ..
@[simp] theorem State.inbox_setXW (s : State) (c : Ctx) (r : Reg) (v : Word) : (s.setXW c r v).inbox = s.inbox := State.inbox_setX ..
@[simp] theorem State.natives_setXW (s : State) (c : Ctx) (r : Reg) (v : Word) : (s.setXW c r v).natives = s.natives := State.natives_setX ..
@[simp] theorem State.ports_setXW (s : State) (c : Ctx) (r : Reg) (v : Word) : (s.setXW c r v).ports = s.ports := State.ports_setX ..
@[simp] theorem State.draws_setXW (s : State) (c : Ctx) (r : Reg) (v : Word) : (s.setXW c r v).draws = s.draws := State.draws_setX ..

@[simp] theorem State.cfg_setF (s : State) (c : Ctx) (r : Reg) (v : Word) : (s.setF c r v).cfg = s.cfg := rfl
@[simp] theorem State.rng_setF (s : State) (c : Ctx) (r : Reg) (v : Word) : (s.setF c r v).rng = s.rng := rfl
@[simp] theorem State.spad_setF (s : State) (c : Ctx) (r : Reg) (v : Word) : (s.setF c r v).spad = s.spad := rfl
@[simp] theorem State.arena_setF (s : State) (c : Ctx) (r : Reg) (v : Word) : (s.setF c r v).arena = s.arena := rfl
@[simp] theorem State.status_setF (s : State) (c : Ctx) (r : Reg) (v : Word) : (s.setF c r v).status = s.status := rfl
@[simp] theorem State.fcode_setF (s : State) (c : Ctx) (r : Reg) (v : Word) : (s.setF c r v).fcode = s.fcode := rfl
@[simp] theorem State.fcmd_setF (s : State) (c : Ctx) (r : Reg) (v : Word) : (s.setF c r v).fcmd = s.fcmd := rfl
@[simp] theorem State.finfo0_setF (s : State) (c : Ctx) (r : Reg) (v : Word) : (s.setF c r v).finfo0 = s.finfo0 := rfl
@[simp] theorem State.finfo1_setF (s : State) (c : Ctx) (r : Reg) (v : Word) : (s.setF c r v).finfo1 = s.finfo1 := rfl
@[simp] theorem State.finfo2_setF (s : State) (c : Ctx) (r : Reg) (v : Word) : (s.setF c r v).finfo2 = s.finfo2 := rfl
@[simp] theorem State.inbox_setF (s : State) (c : Ctx) (r : Reg) (v : Word) : (s.setF c r v).inbox = s.inbox := rfl
@[simp] theorem State.natives_setF (s : State) (c : Ctx) (r : Reg) (v : Word) : (s.setF c r v).natives = s.natives := rfl
@[simp] theorem State.ports_setF (s : State) (c : Ctx) (r : Reg) (v : Word) : (s.setF c r v).ports = s.ports := rfl
@[simp] theorem State.draws_setF (s : State) (c : Ctx) (r : Reg) (v : Word) : (s.setF c r v).draws = s.draws := rfl

@[simp] theorem State.cfg_setVf (s : State) (c : Ctx) (r : Reg) (v : Quad) : (s.setVf c r v).cfg = s.cfg := rfl
@[simp] theorem State.rng_setVf (s : State) (c : Ctx) (r : Reg) (v : Quad) : (s.setVf c r v).rng = s.rng := rfl
@[simp] theorem State.spad_setVf (s : State) (c : Ctx) (r : Reg) (v : Quad) : (s.setVf c r v).spad = s.spad := rfl
@[simp] theorem State.arena_setVf (s : State) (c : Ctx) (r : Reg) (v : Quad) : (s.setVf c r v).arena = s.arena := rfl
@[simp] theorem State.status_setVf (s : State) (c : Ctx) (r : Reg) (v : Quad) : (s.setVf c r v).status = s.status := rfl
@[simp] theorem State.fcode_setVf (s : State) (c : Ctx) (r : Reg) (v : Quad) : (s.setVf c r v).fcode = s.fcode := rfl
@[simp] theorem State.fcmd_setVf (s : State) (c : Ctx) (r : Reg) (v : Quad) : (s.setVf c r v).fcmd = s.fcmd := rfl
@[simp] theorem State.finfo0_setVf (s : State) (c : Ctx) (r : Reg) (v : Quad) : (s.setVf c r v).finfo0 = s.finfo0 := rfl
@[simp] theorem State.finfo1_setVf (s : State) (c : Ctx) (r : Reg) (v : Quad) : (s.setVf c r v).finfo1 = s.finfo1 := rfl
@[simp] theorem State.finfo2_setVf (s : State) (c : Ctx) (r : Reg) (v : Quad) : (s.setVf c r v).finfo2 = s.finfo2 := rfl
@[simp] theorem State.inbox_setVf (s : State) (c : Ctx) (r : Reg) (v : Quad) : (s.setVf c r v).inbox = s.inbox := rfl
@[simp] theorem State.natives_setVf (s : State) (c : Ctx) (r : Reg) (v : Quad) : (s.setVf c r v).natives = s.natives := rfl
@[simp] theorem State.ports_setVf (s : State) (c : Ctx) (r : Reg) (v : Quad) : (s.setVf c r v).ports = s.ports := rfl
@[simp] theorem State.draws_setVf (s : State) (c : Ctx) (r : Reg) (v : Quad) : (s.setVf c r v).draws = s.draws := rfl

@[simp] theorem State.cfg_setAcc (s : State) (c : Ctx) (v : Quad) : (s.setAcc c v).cfg = s.cfg := rfl
@[simp] theorem State.rng_setAcc (s : State) (c : Ctx) (v : Quad) : (s.setAcc c v).rng = s.rng := rfl
@[simp] theorem State.spad_setAcc (s : State) (c : Ctx) (v : Quad) : (s.setAcc c v).spad = s.spad := rfl
@[simp] theorem State.arena_setAcc (s : State) (c : Ctx) (v : Quad) : (s.setAcc c v).arena = s.arena := rfl
@[simp] theorem State.status_setAcc (s : State) (c : Ctx) (v : Quad) : (s.setAcc c v).status = s.status := rfl
@[simp] theorem State.fcode_setAcc (s : State) (c : Ctx) (v : Quad) : (s.setAcc c v).fcode = s.fcode := rfl
@[simp] theorem State.fcmd_setAcc (s : State) (c : Ctx) (v : Quad) : (s.setAcc c v).fcmd = s.fcmd := rfl
@[simp] theorem State.finfo0_setAcc (s : State) (c : Ctx) (v : Quad) : (s.setAcc c v).finfo0 = s.finfo0 := rfl
@[simp] theorem State.finfo1_setAcc (s : State) (c : Ctx) (v : Quad) : (s.setAcc c v).finfo1 = s.finfo1 := rfl
@[simp] theorem State.finfo2_setAcc (s : State) (c : Ctx) (v : Quad) : (s.setAcc c v).finfo2 = s.finfo2 := rfl
@[simp] theorem State.inbox_setAcc (s : State) (c : Ctx) (v : Quad) : (s.setAcc c v).inbox = s.inbox := rfl
@[simp] theorem State.natives_setAcc (s : State) (c : Ctx) (v : Quad) : (s.setAcc c v).natives = s.natives := rfl
@[simp] theorem State.ports_setAcc (s : State) (c : Ctx) (v : Quad) : (s.setAcc c v).ports = s.ports := rfl
@[simp] theorem State.draws_setAcc (s : State) (c : Ctx) (v : Quad) : (s.setAcc c v).draws = s.draws := rfl

@[simp] theorem State.cfg_setQ (s : State) (c : Ctx) (v : Word) : (s.setQ c v).cfg = s.cfg := rfl
@[simp] theorem State.rng_setQ (s : State) (c : Ctx) (v : Word) : (s.setQ c v).rng = s.rng := rfl
@[simp] theorem State.spad_setQ (s : State) (c : Ctx) (v : Word) : (s.setQ c v).spad = s.spad := rfl
@[simp] theorem State.arena_setQ (s : State) (c : Ctx) (v : Word) : (s.setQ c v).arena = s.arena := rfl
@[simp] theorem State.status_setQ (s : State) (c : Ctx) (v : Word) : (s.setQ c v).status = s.status := rfl
@[simp] theorem State.fcode_setQ (s : State) (c : Ctx) (v : Word) : (s.setQ c v).fcode = s.fcode := rfl
@[simp] theorem State.fcmd_setQ (s : State) (c : Ctx) (v : Word) : (s.setQ c v).fcmd = s.fcmd := rfl
@[simp] theorem State.finfo0_setQ (s : State) (c : Ctx) (v : Word) : (s.setQ c v).finfo0 = s.finfo0 := rfl
@[simp] theorem State.finfo1_setQ (s : State) (c : Ctx) (v : Word) : (s.setQ c v).finfo1 = s.finfo1 := rfl
@[simp] theorem State.finfo2_setQ (s : State) (c : Ctx) (v : Word) : (s.setQ c v).finfo2 = s.finfo2 := rfl
@[simp] theorem State.inbox_setQ (s : State) (c : Ctx) (v : Word) : (s.setQ c v).inbox = s.inbox := rfl
@[simp] theorem State.natives_setQ (s : State) (c : Ctx) (v : Word) : (s.setQ c v).natives = s.natives := rfl
@[simp] theorem State.ports_setQ (s : State) (c : Ctx) (v : Word) : (s.setQ c v).ports = s.ports := rfl
@[simp] theorem State.draws_setQ (s : State) (c : Ctx) (v : Word) : (s.setQ c v).draws = s.draws := rfl

@[simp] theorem State.cfg_setI (s : State) (c : Ctx) (v : Word) : (s.setI c v).cfg = s.cfg := rfl
@[simp] theorem State.rng_setI (s : State) (c : Ctx) (v : Word) : (s.setI c v).rng = s.rng := rfl
@[simp] theorem State.spad_setI (s : State) (c : Ctx) (v : Word) : (s.setI c v).spad = s.spad := rfl
@[simp] theorem State.arena_setI (s : State) (c : Ctx) (v : Word) : (s.setI c v).arena = s.arena := rfl
@[simp] theorem State.status_setI (s : State) (c : Ctx) (v : Word) : (s.setI c v).status = s.status := rfl
@[simp] theorem State.fcode_setI (s : State) (c : Ctx) (v : Word) : (s.setI c v).fcode = s.fcode := rfl
@[simp] theorem State.fcmd_setI (s : State) (c : Ctx) (v : Word) : (s.setI c v).fcmd = s.fcmd := rfl
@[simp] theorem State.finfo0_setI (s : State) (c : Ctx) (v : Word) : (s.setI c v).finfo0 = s.finfo0 := rfl
@[simp] theorem State.finfo1_setI (s : State) (c : Ctx) (v : Word) : (s.setI c v).finfo1 = s.finfo1 := rfl
@[simp] theorem State.finfo2_setI (s : State) (c : Ctx) (v : Word) : (s.setI c v).finfo2 = s.finfo2 := rfl
@[simp] theorem State.inbox_setI (s : State) (c : Ctx) (v : Word) : (s.setI c v).inbox = s.inbox := rfl
@[simp] theorem State.natives_setI (s : State) (c : Ctx) (v : Word) : (s.setI c v).natives = s.natives := rfl
@[simp] theorem State.ports_setI (s : State) (c : Ctx) (v : Word) : (s.setI c v).ports = s.ports := rfl
@[simp] theorem State.draws_setI (s : State) (c : Ctx) (v : Word) : (s.setI c v).draws = s.draws := rfl

@[simp] theorem State.cfg_setHi (s : State) (c : Ctx) (v : Quad) : (s.setHi c v).cfg = s.cfg := rfl
@[simp] theorem State.rng_setHi (s : State) (c : Ctx) (v : Quad) : (s.setHi c v).rng = s.rng := rfl
@[simp] theorem State.spad_setHi (s : State) (c : Ctx) (v : Quad) : (s.setHi c v).spad = s.spad := rfl
@[simp] theorem State.arena_setHi (s : State) (c : Ctx) (v : Quad) : (s.setHi c v).arena = s.arena := rfl
@[simp] theorem State.status_setHi (s : State) (c : Ctx) (v : Quad) : (s.setHi c v).status = s.status := rfl
@[simp] theorem State.fcode_setHi (s : State) (c : Ctx) (v : Quad) : (s.setHi c v).fcode = s.fcode := rfl
@[simp] theorem State.fcmd_setHi (s : State) (c : Ctx) (v : Quad) : (s.setHi c v).fcmd = s.fcmd := rfl
@[simp] theorem State.finfo0_setHi (s : State) (c : Ctx) (v : Quad) : (s.setHi c v).finfo0 = s.finfo0 := rfl
@[simp] theorem State.finfo1_setHi (s : State) (c : Ctx) (v : Quad) : (s.setHi c v).finfo1 = s.finfo1 := rfl
@[simp] theorem State.finfo2_setHi (s : State) (c : Ctx) (v : Quad) : (s.setHi c v).finfo2 = s.finfo2 := rfl
@[simp] theorem State.inbox_setHi (s : State) (c : Ctx) (v : Quad) : (s.setHi c v).inbox = s.inbox := rfl
@[simp] theorem State.natives_setHi (s : State) (c : Ctx) (v : Quad) : (s.setHi c v).natives = s.natives := rfl
@[simp] theorem State.ports_setHi (s : State) (c : Ctx) (v : Quad) : (s.setHi c v).ports = s.ports := rfl
@[simp] theorem State.draws_setHi (s : State) (c : Ctx) (v : Quad) : (s.setHi c v).draws = s.draws := rfl

@[simp] theorem State.cfg_setLo (s : State) (c : Ctx) (v : Quad) : (s.setLo c v).cfg = s.cfg := rfl
@[simp] theorem State.rng_setLo (s : State) (c : Ctx) (v : Quad) : (s.setLo c v).rng = s.rng := rfl
@[simp] theorem State.spad_setLo (s : State) (c : Ctx) (v : Quad) : (s.setLo c v).spad = s.spad := rfl
@[simp] theorem State.arena_setLo (s : State) (c : Ctx) (v : Quad) : (s.setLo c v).arena = s.arena := rfl
@[simp] theorem State.status_setLo (s : State) (c : Ctx) (v : Quad) : (s.setLo c v).status = s.status := rfl
@[simp] theorem State.fcode_setLo (s : State) (c : Ctx) (v : Quad) : (s.setLo c v).fcode = s.fcode := rfl
@[simp] theorem State.fcmd_setLo (s : State) (c : Ctx) (v : Quad) : (s.setLo c v).fcmd = s.fcmd := rfl
@[simp] theorem State.finfo0_setLo (s : State) (c : Ctx) (v : Quad) : (s.setLo c v).finfo0 = s.finfo0 := rfl
@[simp] theorem State.finfo1_setLo (s : State) (c : Ctx) (v : Quad) : (s.setLo c v).finfo1 = s.finfo1 := rfl
@[simp] theorem State.finfo2_setLo (s : State) (c : Ctx) (v : Quad) : (s.setLo c v).finfo2 = s.finfo2 := rfl
@[simp] theorem State.inbox_setLo (s : State) (c : Ctx) (v : Quad) : (s.setLo c v).inbox = s.inbox := rfl
@[simp] theorem State.natives_setLo (s : State) (c : Ctx) (v : Quad) : (s.setLo c v).natives = s.natives := rfl
@[simp] theorem State.ports_setLo (s : State) (c : Ctx) (v : Quad) : (s.setLo c v).ports = s.ports := rfl
@[simp] theorem State.draws_setLo (s : State) (c : Ctx) (v : Quad) : (s.setLo c v).draws = s.draws := rfl

@[simp] theorem State.cfg_setPairD (s : State) (c : Ctx) (lo hi : Dword) : (s.setPairD c lo hi).cfg = s.cfg := rfl
@[simp] theorem State.rng_setPairD (s : State) (c : Ctx) (lo hi : Dword) : (s.setPairD c lo hi).rng = s.rng := rfl
@[simp] theorem State.spad_setPairD (s : State) (c : Ctx) (lo hi : Dword) : (s.setPairD c lo hi).spad = s.spad := rfl
@[simp] theorem State.arena_setPairD (s : State) (c : Ctx) (lo hi : Dword) : (s.setPairD c lo hi).arena = s.arena := rfl
@[simp] theorem State.status_setPairD (s : State) (c : Ctx) (lo hi : Dword) : (s.setPairD c lo hi).status = s.status := rfl
@[simp] theorem State.fcode_setPairD (s : State) (c : Ctx) (lo hi : Dword) : (s.setPairD c lo hi).fcode = s.fcode := rfl
@[simp] theorem State.fcmd_setPairD (s : State) (c : Ctx) (lo hi : Dword) : (s.setPairD c lo hi).fcmd = s.fcmd := rfl
@[simp] theorem State.finfo0_setPairD (s : State) (c : Ctx) (lo hi : Dword) : (s.setPairD c lo hi).finfo0 = s.finfo0 := rfl
@[simp] theorem State.finfo1_setPairD (s : State) (c : Ctx) (lo hi : Dword) : (s.setPairD c lo hi).finfo1 = s.finfo1 := rfl
@[simp] theorem State.finfo2_setPairD (s : State) (c : Ctx) (lo hi : Dword) : (s.setPairD c lo hi).finfo2 = s.finfo2 := rfl
@[simp] theorem State.inbox_setPairD (s : State) (c : Ctx) (lo hi : Dword) : (s.setPairD c lo hi).inbox = s.inbox := rfl
@[simp] theorem State.natives_setPairD (s : State) (c : Ctx) (lo hi : Dword) : (s.setPairD c lo hi).natives = s.natives := rfl
@[simp] theorem State.ports_setPairD (s : State) (c : Ctx) (lo hi : Dword) : (s.setPairD c lo hi).ports = s.ports := rfl
@[simp] theorem State.draws_setPairD (s : State) (c : Ctx) (lo hi : Dword) : (s.setPairD c lo hi).draws = s.draws := rfl

@[simp] theorem State.cfg_setPairLanes (s : State) (c : Ctx) (rd : Reg) (lo hi : Nat → Word) : (s.setPairLanes c rd lo hi).cfg = s.cfg := State.cfg_setX ..
@[simp] theorem State.rng_setPairLanes (s : State) (c : Ctx) (rd : Reg) (lo hi : Nat → Word) : (s.setPairLanes c rd lo hi).rng = s.rng := State.rng_setX ..
@[simp] theorem State.spad_setPairLanes (s : State) (c : Ctx) (rd : Reg) (lo hi : Nat → Word) : (s.setPairLanes c rd lo hi).spad = s.spad := State.spad_setX ..
@[simp] theorem State.arena_setPairLanes (s : State) (c : Ctx) (rd : Reg) (lo hi : Nat → Word) : (s.setPairLanes c rd lo hi).arena = s.arena := State.arena_setX ..
@[simp] theorem State.status_setPairLanes (s : State) (c : Ctx) (rd : Reg) (lo hi : Nat → Word) : (s.setPairLanes c rd lo hi).status = s.status := State.status_setX ..
@[simp] theorem State.fcode_setPairLanes (s : State) (c : Ctx) (rd : Reg) (lo hi : Nat → Word) : (s.setPairLanes c rd lo hi).fcode = s.fcode := State.fcode_setX ..
@[simp] theorem State.fcmd_setPairLanes (s : State) (c : Ctx) (rd : Reg) (lo hi : Nat → Word) : (s.setPairLanes c rd lo hi).fcmd = s.fcmd := State.fcmd_setX ..
@[simp] theorem State.finfo0_setPairLanes (s : State) (c : Ctx) (rd : Reg) (lo hi : Nat → Word) : (s.setPairLanes c rd lo hi).finfo0 = s.finfo0 := State.finfo0_setX ..
@[simp] theorem State.finfo1_setPairLanes (s : State) (c : Ctx) (rd : Reg) (lo hi : Nat → Word) : (s.setPairLanes c rd lo hi).finfo1 = s.finfo1 := State.finfo1_setX ..
@[simp] theorem State.finfo2_setPairLanes (s : State) (c : Ctx) (rd : Reg) (lo hi : Nat → Word) : (s.setPairLanes c rd lo hi).finfo2 = s.finfo2 := State.finfo2_setX ..
@[simp] theorem State.inbox_setPairLanes (s : State) (c : Ctx) (rd : Reg) (lo hi : Nat → Word) : (s.setPairLanes c rd lo hi).inbox = s.inbox := State.inbox_setX ..
@[simp] theorem State.natives_setPairLanes (s : State) (c : Ctx) (rd : Reg) (lo hi : Nat → Word) : (s.setPairLanes c rd lo hi).natives = s.natives := State.natives_setX ..
@[simp] theorem State.ports_setPairLanes (s : State) (c : Ctx) (rd : Reg) (lo hi : Nat → Word) : (s.setPairLanes c rd lo hi).ports = s.ports := State.ports_setX ..
@[simp] theorem State.draws_setPairLanes (s : State) (c : Ctx) (rd : Reg) (lo hi : Nat → Word) : (s.setPairLanes c rd lo hi).draws = s.draws := State.draws_setX ..

@[simp] theorem State.cfg_maskVf (s : State) (c : Ctx) (fd : Reg) (dest : Mask) (g : Nat → Word) : (s.maskVf c fd dest g).cfg = s.cfg := rfl
@[simp] theorem State.rng_maskVf (s : State) (c : Ctx) (fd : Reg) (dest : Mask) (g : Nat → Word) : (s.maskVf c fd dest g).rng = s.rng := rfl
@[simp] theorem State.spad_maskVf (s : State) (c : Ctx) (fd : Reg) (dest : Mask) (g : Nat → Word) : (s.maskVf c fd dest g).spad = s.spad := rfl
@[simp] theorem State.arena_maskVf (s : State) (c : Ctx) (fd : Reg) (dest : Mask) (g : Nat → Word) : (s.maskVf c fd dest g).arena = s.arena := rfl
@[simp] theorem State.status_maskVf (s : State) (c : Ctx) (fd : Reg) (dest : Mask) (g : Nat → Word) : (s.maskVf c fd dest g).status = s.status := rfl
@[simp] theorem State.fcode_maskVf (s : State) (c : Ctx) (fd : Reg) (dest : Mask) (g : Nat → Word) : (s.maskVf c fd dest g).fcode = s.fcode := rfl
@[simp] theorem State.fcmd_maskVf (s : State) (c : Ctx) (fd : Reg) (dest : Mask) (g : Nat → Word) : (s.maskVf c fd dest g).fcmd = s.fcmd := rfl
@[simp] theorem State.finfo0_maskVf (s : State) (c : Ctx) (fd : Reg) (dest : Mask) (g : Nat → Word) : (s.maskVf c fd dest g).finfo0 = s.finfo0 := rfl
@[simp] theorem State.finfo1_maskVf (s : State) (c : Ctx) (fd : Reg) (dest : Mask) (g : Nat → Word) : (s.maskVf c fd dest g).finfo1 = s.finfo1 := rfl
@[simp] theorem State.finfo2_maskVf (s : State) (c : Ctx) (fd : Reg) (dest : Mask) (g : Nat → Word) : (s.maskVf c fd dest g).finfo2 = s.finfo2 := rfl
@[simp] theorem State.inbox_maskVf (s : State) (c : Ctx) (fd : Reg) (dest : Mask) (g : Nat → Word) : (s.maskVf c fd dest g).inbox = s.inbox := rfl
@[simp] theorem State.natives_maskVf (s : State) (c : Ctx) (fd : Reg) (dest : Mask) (g : Nat → Word) : (s.maskVf c fd dest g).natives = s.natives := rfl
@[simp] theorem State.ports_maskVf (s : State) (c : Ctx) (fd : Reg) (dest : Mask) (g : Nat → Word) : (s.maskVf c fd dest g).ports = s.ports := rfl
@[simp] theorem State.draws_maskVf (s : State) (c : Ctx) (fd : Reg) (dest : Mask) (g : Nat → Word) : (s.maskVf c fd dest g).draws = s.draws := rfl

@[simp] theorem State.cfg_maskAcc (s : State) (c : Ctx) (dest : Mask) (g : Nat → Word) : (s.maskAcc c dest g).cfg = s.cfg := rfl
@[simp] theorem State.rng_maskAcc (s : State) (c : Ctx) (dest : Mask) (g : Nat → Word) : (s.maskAcc c dest g).rng = s.rng := rfl
@[simp] theorem State.spad_maskAcc (s : State) (c : Ctx) (dest : Mask) (g : Nat → Word) : (s.maskAcc c dest g).spad = s.spad := rfl
@[simp] theorem State.arena_maskAcc (s : State) (c : Ctx) (dest : Mask) (g : Nat → Word) : (s.maskAcc c dest g).arena = s.arena := rfl
@[simp] theorem State.status_maskAcc (s : State) (c : Ctx) (dest : Mask) (g : Nat → Word) : (s.maskAcc c dest g).status = s.status := rfl
@[simp] theorem State.fcode_maskAcc (s : State) (c : Ctx) (dest : Mask) (g : Nat → Word) : (s.maskAcc c dest g).fcode = s.fcode := rfl
@[simp] theorem State.fcmd_maskAcc (s : State) (c : Ctx) (dest : Mask) (g : Nat → Word) : (s.maskAcc c dest g).fcmd = s.fcmd := rfl
@[simp] theorem State.finfo0_maskAcc (s : State) (c : Ctx) (dest : Mask) (g : Nat → Word) : (s.maskAcc c dest g).finfo0 = s.finfo0 := rfl
@[simp] theorem State.finfo1_maskAcc (s : State) (c : Ctx) (dest : Mask) (g : Nat → Word) : (s.maskAcc c dest g).finfo1 = s.finfo1 := rfl
@[simp] theorem State.finfo2_maskAcc (s : State) (c : Ctx) (dest : Mask) (g : Nat → Word) : (s.maskAcc c dest g).finfo2 = s.finfo2 := rfl
@[simp] theorem State.inbox_maskAcc (s : State) (c : Ctx) (dest : Mask) (g : Nat → Word) : (s.maskAcc c dest g).inbox = s.inbox := rfl
@[simp] theorem State.natives_maskAcc (s : State) (c : Ctx) (dest : Mask) (g : Nat → Word) : (s.maskAcc c dest g).natives = s.natives := rfl
@[simp] theorem State.ports_maskAcc (s : State) (c : Ctx) (dest : Mask) (g : Nat → Word) : (s.maskAcc c dest g).ports = s.ports := rfl
@[simp] theorem State.draws_maskAcc (s : State) (c : Ctx) (dest : Mask) (g : Nat → Word) : (s.maskAcc c dest g).draws = s.draws := rfl

/-! Reading one register after writing another kind. -/

@[simp] theorem State.f_setX (s : State) (c : Ctx) (r : Reg) (v : Quad) (d : Ctx) (r' : Reg) : (s.setX c r v).f d r' = s.f d r' := by
  unfold State.setX; split
  · rfl
  · simp only [State.f, State.bank_setBank]; split
    · next h => subst h; rfl
    · rfl
@[simp] theorem State.vfStored_setX (s : State) (c : Ctx) (r : Reg) (v : Quad) (d : Ctx) (r' : Reg) : (s.setX c r v).vfStored d r' = s.vfStored d r' := by
  unfold State.setX; split
  · rfl
  · simp only [State.vfStored, State.bank_setBank]; split
    · next h => subst h; rfl
    · rfl
@[simp] theorem State.acc_setX (s : State) (c : Ctx) (r : Reg) (v : Quad) (d : Ctx) : (s.setX c r v).acc d = s.acc d := by
  unfold State.setX; split
  · rfl
  · simp only [State.acc, State.bank_setBank]; split
    · next h => subst h; rfl
    · rfl
@[simp] theorem State.q_setX (s : State) (c : Ctx) (r : Reg) (v : Quad) (d : Ctx) : (s.setX c r v).q d = s.q d := by
  unfold State.setX; split
  · rfl
  · simp only [State.q, State.bank_setBank]; split
    · next h => subst h; rfl
    · rfl
@[simp] theorem State.i_setX (s : State) (c : Ctx) (r : Reg) (v : Quad) (d : Ctx) : (s.setX c r v).i d = s.i d := by
  unfold State.setX; split
  · rfl
  · simp only [State.i, State.bank_setBank]; split
    · next h => subst h; rfl
    · rfl
@[simp] theorem State.hi_setX (s : State) (c : Ctx) (r : Reg) (v : Quad) (d : Ctx) : (s.setX c r v).hi d = s.hi d := by
  unfold State.setX; split
  · rfl
  · simp only [State.hi, State.bank_setBank]; split
    · next h => subst h; rfl
    · rfl
@[simp] theorem State.lo_setX (s : State) (c : Ctx) (r : Reg) (v : Quad) (d : Ctx) : (s.setX c r v).lo d = s.lo d := by
  unfold State.setX; split
  · rfl
  · simp only [State.lo, State.bank_setBank]; split
    · next h => subst h; rfl
    · rfl

@[simp] theorem State.x_setF (s : State) (c : Ctx) (r : Reg) (v : Word) (d : Ctx) (r' : Reg) : (s.setF c r v).x d r' = s.x d r' := by
  by_cases h : d = c
  · subst h; simp [State.setF, State.x]
  · simp [State.setF, State.x, State.bank_setBank, h]
@[simp] theorem State.vfStored_setF (s : State) (c : Ctx) (r : Reg) (v : Word) (d : Ctx) (r' : Reg) : (s.setF c r v).vfStored d r' = s.vfStored d r' := by
  by_cases h : d = c
  · subst h; simp [State.setF, State.vfStored]
  · simp [State.setF, State.vfStored, State.bank_setBank, h]
@[simp] theorem State.acc_setF (s : State) (c : Ctx) (r : Reg) (v : Word) (d : Ctx) : (s.setF c r v).acc d = s.acc d := by
  by_cases h : d = c
  · subst h; simp [State.setF, State.acc]
  · simp [State.setF, State.acc, State.bank_setBank, h]
@[simp] theorem State.q_setF (s : State) (c : Ctx) (r : Reg) (v : Word) (d : Ctx) : (s.setF c r v).q d = s.q d := by
  by_cases h : d = c
  · subst h; simp [State.setF, State.q]
  · simp [State.setF, State.q, State.bank_setBank, h]
@[simp] theorem State.i_setF (s : State) (c : Ctx) (r : Reg) (v : Word) (d : Ctx) : (s.setF c r v).i d = s.i d := by
  by_cases h : d = c
  · subst h; simp [State.setF, State.i]
  · simp [State.setF, State.i, State.bank_setBank, h]
@[simp] theorem State.hi_setF (s : State) (c : Ctx) (r : Reg) (v : Word) (d : Ctx) : (s.setF c r v).hi d = s.hi d := by
  by_cases h : d = c
  · subst h; simp [State.setF, State.hi]
  · simp [State.setF, State.hi, State.bank_setBank, h]
@[simp] theorem State.lo_setF (s : State) (c : Ctx) (r : Reg) (v : Word) (d : Ctx) : (s.setF c r v).lo d = s.lo d := by
  by_cases h : d = c
  · subst h; simp [State.setF, State.lo]
  · simp [State.setF, State.lo, State.bank_setBank, h]

@[simp] theorem State.x_setVf (s : State) (c : Ctx) (r : Reg) (v : Quad) (d : Ctx) (r' : Reg) : (s.setVf c r v).x d r' = s.x d r' := by
  by_cases h : d = c
  · subst h; simp [State.setVf, State.x]
  · simp [State.setVf, State.x, State.bank_setBank, h]
@[simp] theorem State.f_setVf (s : State) (c : Ctx) (r : Reg) (v : Quad) (d : Ctx) (r' : Reg) : (s.setVf c r v).f d r' = s.f d r' := by
  by_cases h : d = c
  · subst h; simp [State.setVf, State.f]
  · simp [State.setVf, State.f, State.bank_setBank, h]
@[simp] theorem State.acc_setVf (s : State) (c : Ctx) (r : Reg) (v : Quad) (d : Ctx) : (s.setVf c r v).acc d = s.acc d := by
  by_cases h : d = c
  · subst h; simp [State.setVf, State.acc]
  · simp [State.setVf, State.acc, State.bank_setBank, h]
@[simp] theorem State.q_setVf (s : State) (c : Ctx) (r : Reg) (v : Quad) (d : Ctx) : (s.setVf c r v).q d = s.q d := by
  by_cases h : d = c
  · subst h; simp [State.setVf, State.q]
  · simp [State.setVf, State.q, State.bank_setBank, h]
@[simp] theorem State.i_setVf (s : State) (c : Ctx) (r : Reg) (v : Quad) (d : Ctx) : (s.setVf c r v).i d = s.i d := by
  by_cases h : d = c
  · subst h; simp [State.setVf, State.i]
  · simp [State.setVf, State.i, State.bank_setBank, h]
@[simp] theorem State.hi_setVf (s : State) (c : Ctx) (r : Reg) (v : Quad) (d : Ctx) : (s.setVf c r v).hi d = s.hi d := by
  by_cases h : d = c
  · subst h; simp [State.setVf, State.hi]
  · simp [State.setVf, State.hi, State.bank_setBank, h]
@[simp] theorem State.lo_setVf (s : State) (c : Ctx) (r : Reg) (v : Quad) (d : Ctx) : (s.setVf c r v).lo d = s.lo d := by
  by_cases h : d = c
  · subst h; simp [State.setVf, State.lo]
  · simp [State.setVf, State.lo, State.bank_setBank, h]

@[simp] theorem State.x_setAcc (s : State) (c : Ctx) (v : Quad) (d : Ctx) (r' : Reg) : (s.setAcc c v).x d r' = s.x d r' := by
  by_cases h : d = c
  · subst h; simp [State.setAcc, State.x]
  · simp [State.setAcc, State.x, State.bank_setBank, h]
@[simp] theorem State.f_setAcc (s : State) (c : Ctx) (v : Quad) (d : Ctx) (r' : Reg) : (s.setAcc c v).f d r' = s.f d r' := by
  by_cases h : d = c
  · subst h; simp [State.setAcc, State.f]
  · simp [State.setAcc, State.f, State.bank_setBank, h]
@[simp] theorem State.vfStored_setAcc (s : State) (c : Ctx) (v : Quad) (d : Ctx) (r' : Reg) : (s.setAcc c v).vfStored d r' = s.vfStored d r' := by
  by_cases h : d = c
  · subst h; simp [State.setAcc, State.vfStored]
  · simp [State.setAcc, State.vfStored, State.bank_setBank, h]
@[simp] theorem State.q_setAcc (s : State) (c : Ctx) (v : Quad) (d : Ctx) : (s.setAcc c v).q d = s.q d := by
  by_cases h : d = c
  · subst h; simp [State.setAcc, State.q]
  · simp [State.setAcc, State.q, State.bank_setBank, h]
@[simp] theorem State.i_setAcc (s : State) (c : Ctx) (v : Quad) (d : Ctx) : (s.setAcc c v).i d = s.i d := by
  by_cases h : d = c
  · subst h; simp [State.setAcc, State.i]
  · simp [State.setAcc, State.i, State.bank_setBank, h]
@[simp] theorem State.hi_setAcc (s : State) (c : Ctx) (v : Quad) (d : Ctx) : (s.setAcc c v).hi d = s.hi d := by
  by_cases h : d = c
  · subst h; simp [State.setAcc, State.hi]
  · simp [State.setAcc, State.hi, State.bank_setBank, h]
@[simp] theorem State.lo_setAcc (s : State) (c : Ctx) (v : Quad) (d : Ctx) : (s.setAcc c v).lo d = s.lo d := by
  by_cases h : d = c
  · subst h; simp [State.setAcc, State.lo]
  · simp [State.setAcc, State.lo, State.bank_setBank, h]

@[simp] theorem State.x_setQ (s : State) (c : Ctx) (v : Word) (d : Ctx) (r' : Reg) : (s.setQ c v).x d r' = s.x d r' := by
  by_cases h : d = c
  · subst h; simp [State.setQ, State.x]
  · simp [State.setQ, State.x, State.bank_setBank, h]
@[simp] theorem State.f_setQ (s : State) (c : Ctx) (v : Word) (d : Ctx) (r' : Reg) : (s.setQ c v).f d r' = s.f d r' := by
  by_cases h : d = c
  · subst h; simp [State.setQ, State.f]
  · simp [State.setQ, State.f, State.bank_setBank, h]
@[simp] theorem State.vfStored_setQ (s : State) (c : Ctx) (v : Word) (d : Ctx) (r' : Reg) : (s.setQ c v).vfStored d r' = s.vfStored d r' := by
  by_cases h : d = c
  · subst h; simp [State.setQ, State.vfStored]
  · simp [State.setQ, State.vfStored, State.bank_setBank, h]
@[simp] theorem State.acc_setQ (s : State) (c : Ctx) (v : Word) (d : Ctx) : (s.setQ c v).acc d = s.acc d := by
  by_cases h : d = c
  · subst h; simp [State.setQ, State.acc]
  · simp [State.setQ, State.acc, State.bank_setBank, h]
@[simp] theorem State.i_setQ (s : State) (c : Ctx) (v : Word) (d : Ctx) : (s.setQ c v).i d = s.i d := by
  by_cases h : d = c
  · subst h; simp [State.setQ, State.i]
  · simp [State.setQ, State.i, State.bank_setBank, h]
@[simp] theorem State.hi_setQ (s : State) (c : Ctx) (v : Word) (d : Ctx) : (s.setQ c v).hi d = s.hi d := by
  by_cases h : d = c
  · subst h; simp [State.setQ, State.hi]
  · simp [State.setQ, State.hi, State.bank_setBank, h]
@[simp] theorem State.lo_setQ (s : State) (c : Ctx) (v : Word) (d : Ctx) : (s.setQ c v).lo d = s.lo d := by
  by_cases h : d = c
  · subst h; simp [State.setQ, State.lo]
  · simp [State.setQ, State.lo, State.bank_setBank, h]

@[simp] theorem State.x_setI (s : State) (c : Ctx) (v : Word) (d : Ctx) (r' : Reg) : (s.setI c v).x d r' = s.x d r' := by
  by_cases h : d = c
  · subst h; simp [State.setI, State.x]
  · simp [State.setI, State.x, State.bank_setBank, h]
@[simp] theorem State.f_setI (s : State) (c : Ctx) (v : Word) (d : Ctx) (r' : Reg) : (s.setI c v).f d r' = s.f d r' := by
  by_cases h : d = c
  · subst h; simp [State.setI, State.f]
  · simp [State.setI, State.f, State.bank_setBank, h]
@[simp] theorem State.vfStored_setI (s : State) (c : Ctx) (v : Word) (d : Ctx) (r' : Reg) : (s.setI c v).vfStored d r' = s.vfStored d r' := by
  by_cases h : d = c
  · subst h; simp [State.setI, State.vfStored]
  · simp [State.setI, State.vfStored, State.bank_setBank, h]
@[simp] theorem State.acc_setI (s : State) (c : Ctx) (v : Word) (d : Ctx) : (s.setI c v).acc d = s.acc d := by
  by_cases h : d = c
  · subst h; simp [State.setI, State.acc]
  · simp [State.setI, State.acc, State.bank_setBank, h]
@[simp] theorem State.q_setI (s : State) (c : Ctx) (v : Word) (d : Ctx) : (s.setI c v).q d = s.q d := by
  by_cases h : d = c
  · subst h; simp [State.setI, State.q]
  · simp [State.setI, State.q, State.bank_setBank, h]
@[simp] theorem State.hi_setI (s : State) (c : Ctx) (v : Word) (d : Ctx) : (s.setI c v).hi d = s.hi d := by
  by_cases h : d = c
  · subst h; simp [State.setI, State.hi]
  · simp [State.setI, State.hi, State.bank_setBank, h]
@[simp] theorem State.lo_setI (s : State) (c : Ctx) (v : Word) (d : Ctx) : (s.setI c v).lo d = s.lo d := by
  by_cases h : d = c
  · subst h; simp [State.setI, State.lo]
  · simp [State.setI, State.lo, State.bank_setBank, h]

@[simp] theorem State.x_setHi (s : State) (c : Ctx) (v : Quad) (d : Ctx) (r' : Reg) : (s.setHi c v).x d r' = s.x d r' := by
  by_cases h : d = c
  · subst h; simp [State.setHi, State.x]
  · simp [State.setHi, State.x, State.bank_setBank, h]
@[simp] theorem State.f_setHi (s : State) (c : Ctx) (v : Quad) (d : Ctx) (r' : Reg) : (s.setHi c v).f d r' = s.f d r' := by
  by_cases h : d = c
  · subst h; simp [State.setHi, State.f]
  · simp [State.setHi, State.f, State.bank_setBank, h]
@[simp] theorem State.vfStored_setHi (s : State) (c : Ctx) (v : Quad) (d : Ctx) (r' : Reg) : (s.setHi c v).vfStored d r' = s.vfStored d r' := by
  by_cases h : d = c
  · subst h; simp [State.setHi, State.vfStored]
  · simp [State.setHi, State.vfStored, State.bank_setBank, h]
@[simp] theorem State.acc_setHi (s : State) (c : Ctx) (v : Quad) (d : Ctx) : (s.setHi c v).acc d = s.acc d := by
  by_cases h : d = c
  · subst h; simp [State.setHi, State.acc]
  · simp [State.setHi, State.acc, State.bank_setBank, h]
@[simp] theorem State.q_setHi (s : State) (c : Ctx) (v : Quad) (d : Ctx) : (s.setHi c v).q d = s.q d := by
  by_cases h : d = c
  · subst h; simp [State.setHi, State.q]
  · simp [State.setHi, State.q, State.bank_setBank, h]
@[simp] theorem State.i_setHi (s : State) (c : Ctx) (v : Quad) (d : Ctx) : (s.setHi c v).i d = s.i d := by
  by_cases h : d = c
  · subst h; simp [State.setHi, State.i]
  · simp [State.setHi, State.i, State.bank_setBank, h]
@[simp] theorem State.lo_setHi (s : State) (c : Ctx) (v : Quad) (d : Ctx) : (s.setHi c v).lo d = s.lo d := by
  by_cases h : d = c
  · subst h; simp [State.setHi, State.lo]
  · simp [State.setHi, State.lo, State.bank_setBank, h]

@[simp] theorem State.x_setLo (s : State) (c : Ctx) (v : Quad) (d : Ctx) (r' : Reg) : (s.setLo c v).x d r' = s.x d r' := by
  by_cases h : d = c
  · subst h; simp [State.setLo, State.x]
  · simp [State.setLo, State.x, State.bank_setBank, h]
@[simp] theorem State.f_setLo (s : State) (c : Ctx) (v : Quad) (d : Ctx) (r' : Reg) : (s.setLo c v).f d r' = s.f d r' := by
  by_cases h : d = c
  · subst h; simp [State.setLo, State.f]
  · simp [State.setLo, State.f, State.bank_setBank, h]
@[simp] theorem State.vfStored_setLo (s : State) (c : Ctx) (v : Quad) (d : Ctx) (r' : Reg) : (s.setLo c v).vfStored d r' = s.vfStored d r' := by
  by_cases h : d = c
  · subst h; simp [State.setLo, State.vfStored]
  · simp [State.setLo, State.vfStored, State.bank_setBank, h]
@[simp] theorem State.acc_setLo (s : State) (c : Ctx) (v : Quad) (d : Ctx) : (s.setLo c v).acc d = s.acc d := by
  by_cases h : d = c
  · subst h; simp [State.setLo, State.acc]
  · simp [State.setLo, State.acc, State.bank_setBank, h]
@[simp] theorem State.q_setLo (s : State) (c : Ctx) (v : Quad) (d : Ctx) : (s.setLo c v).q d = s.q d := by
  by_cases h : d = c
  · subst h; simp [State.setLo, State.q]
  · simp [State.setLo, State.q, State.bank_setBank, h]
@[simp] theorem State.i_setLo (s : State) (c : Ctx) (v : Quad) (d : Ctx) : (s.setLo c v).i d = s.i d := by
  by_cases h : d = c
  · subst h; simp [State.setLo, State.i]
  · simp [State.setLo, State.i, State.bank_setBank, h]
@[simp] theorem State.hi_setLo (s : State) (c : Ctx) (v : Quad) (d : Ctx) : (s.setLo c v).hi d = s.hi d := by
  by_cases h : d = c
  · subst h; simp [State.setLo, State.hi]
  · simp [State.setLo, State.hi, State.bank_setBank, h]

/-! Reading one register after writing one of its kind. -/

/-! A write of part of a general register is one of the whole. -/

@[simp] theorem State.f_setXD (s : State) (c : Ctx) (r : Reg) (v : Dword) (d : Ctx) (r' : Reg) :
    (s.setXD c r v).f d r' = s.f d r' := State.f_setX ..
@[simp] theorem State.vfStored_setXD (s : State) (c : Ctx) (r : Reg) (v : Dword) (d : Ctx) (r' : Reg) :
    (s.setXD c r v).vfStored d r' = s.vfStored d r' := State.vfStored_setX ..
@[simp] theorem State.acc_setXD (s : State) (c : Ctx) (r : Reg) (v : Dword) (d : Ctx) :
    (s.setXD c r v).acc d = s.acc d := State.acc_setX ..
@[simp] theorem State.q_setXD (s : State) (c : Ctx) (r : Reg) (v : Dword) (d : Ctx) :
    (s.setXD c r v).q d = s.q d := State.q_setX ..
@[simp] theorem State.i_setXD (s : State) (c : Ctx) (r : Reg) (v : Dword) (d : Ctx) :
    (s.setXD c r v).i d = s.i d := State.i_setX ..
@[simp] theorem State.hi_setXD (s : State) (c : Ctx) (r : Reg) (v : Dword) (d : Ctx) :
    (s.setXD c r v).hi d = s.hi d := State.hi_setX ..
@[simp] theorem State.lo_setXD (s : State) (c : Ctx) (r : Reg) (v : Dword) (d : Ctx) :
    (s.setXD c r v).lo d = s.lo d := State.lo_setX ..
@[simp] theorem State.f_setXW (s : State) (c : Ctx) (r : Reg) (v : Word) (d : Ctx) (r' : Reg) :
    (s.setXW c r v).f d r' = s.f d r' := State.f_setX ..
@[simp] theorem State.vfStored_setXW (s : State) (c : Ctx) (r : Reg) (v : Word) (d : Ctx) (r' : Reg) :
    (s.setXW c r v).vfStored d r' = s.vfStored d r' := State.vfStored_setX ..
@[simp] theorem State.acc_setXW (s : State) (c : Ctx) (r : Reg) (v : Word) (d : Ctx) :
    (s.setXW c r v).acc d = s.acc d := State.acc_setX ..
@[simp] theorem State.q_setXW (s : State) (c : Ctx) (r : Reg) (v : Word) (d : Ctx) :
    (s.setXW c r v).q d = s.q d := State.q_setX ..
@[simp] theorem State.i_setXW (s : State) (c : Ctx) (r : Reg) (v : Word) (d : Ctx) :
    (s.setXW c r v).i d = s.i d := State.i_setX ..
@[simp] theorem State.hi_setXW (s : State) (c : Ctx) (r : Reg) (v : Word) (d : Ctx) :
    (s.setXW c r v).hi d = s.hi d := State.hi_setX ..
@[simp] theorem State.lo_setXW (s : State) (c : Ctx) (r : Reg) (v : Word) (d : Ctx) :
    (s.setXW c r v).lo d = s.lo d := State.lo_setX ..

theorem State.x_setX (s : State) (c d : Ctx) (r r' : Reg) (v : Quad) :
    (s.setX c r v).x d r' = if d = c ∧ r' = r ∧ r ≠ 0 then v else s.x d r' := by
  unfold State.setX
  by_cases hr : r = 0
  · simp [hr]
  · rw [if_neg hr]
    simp only [State.x, State.bank_setBank]
    by_cases hc : d = c
    · subst hc
      by_cases hrr : r' = r
      · subst hrr; simp [hr]
      · by_cases h0 : r' = 0
        · subst h0; simp [hrr]
        · simp only [hrr, h0, hr, if_true, if_false, and_false, ne_eq, not_false_eq_true, and_true]
          exact Vector.getElem_set_ne r.isLt r'.isLt (fun e => hrr (Fin.ext e.symm))
    · simp [hc]

theorem State.f_setF (s : State) (c d : Ctx) (r r' : Reg) (v : Word) :
    (s.setF c r v).f d r' = if d = c ∧ r' = r then v else s.f d r' := by
  simp only [State.setF, State.f, State.bank_setBank]
  by_cases hc : d = c
  · subst hc
    by_cases hr : r' = r
    · subst hr; simp
    · simp only [if_true, hr, and_false, if_false]
      exact Vector.getElem_set_ne r.isLt r'.isLt (fun e => hr (Fin.ext e.symm))
  · simp [hc]

theorem State.vfStored_setVf (s : State) (c d : Ctx) (r r' : Reg) (v : Quad) :
    (s.setVf c r v).vfStored d r' = if d = c ∧ r' = r then v else s.vfStored d r' := by
  simp only [State.setVf, State.vfStored, State.bank_setBank]
  by_cases hc : d = c
  · subst hc
    by_cases hr : r' = r
    · subst hr; simp
    · simp only [if_true, hr, and_false, if_false]
      exact Vector.getElem_set_ne r.isLt r'.isLt (fun e => hr (Fin.ext e.symm))
  · simp [hc]

theorem State.acc_setAcc (s : State) (c d : Ctx) (v : Quad) : (s.setAcc c v).acc d = if d = c then v else s.acc d := by
  simp only [State.setAcc, State.acc, State.bank_setBank]; split <;> rfl

theorem State.q_setQ (s : State) (c d : Ctx) (v : Word) : (s.setQ c v).q d = if d = c then v else s.q d := by
  simp only [State.setQ, State.q, State.bank_setBank]; split <;> rfl

theorem State.i_setI (s : State) (c d : Ctx) (v : Word) : (s.setI c v).i d = if d = c then v else s.i d := by
  simp only [State.setI, State.i, State.bank_setBank]; split <;> rfl

theorem State.hi_setHi (s : State) (c d : Ctx) (v : Quad) : (s.setHi c v).hi d = if d = c then v else s.hi d := by
  simp only [State.setHi, State.hi, State.bank_setBank]; split <;> rfl

theorem State.lo_setLo (s : State) (c d : Ctx) (v : Quad) : (s.setLo c v).lo d = if d = c then v else s.lo d := by
  simp only [State.setLo, State.lo, State.bank_setBank]; split <;> rfl

/-! Updates that touch no register. -/

@[simp] theorem State.cfg_setRng (s : State) (w : Word) : (s.setRng w).cfg = s.cfg := rfl
@[simp] theorem State.spad_setRng (s : State) (w : Word) : (s.setRng w).spad = s.spad := rfl
@[simp] theorem State.arena_setRng (s : State) (w : Word) : (s.setRng w).arena = s.arena := rfl
@[simp] theorem State.status_setRng (s : State) (w : Word) : (s.setRng w).status = s.status := rfl
@[simp] theorem State.fcode_setRng (s : State) (w : Word) : (s.setRng w).fcode = s.fcode := rfl
@[simp] theorem State.fcmd_setRng (s : State) (w : Word) : (s.setRng w).fcmd = s.fcmd := rfl
@[simp] theorem State.finfo0_setRng (s : State) (w : Word) : (s.setRng w).finfo0 = s.finfo0 := rfl
@[simp] theorem State.finfo1_setRng (s : State) (w : Word) : (s.setRng w).finfo1 = s.finfo1 := rfl
@[simp] theorem State.finfo2_setRng (s : State) (w : Word) : (s.setRng w).finfo2 = s.finfo2 := rfl
@[simp] theorem State.inbox_setRng (s : State) (w : Word) : (s.setRng w).inbox = s.inbox := rfl
@[simp] theorem State.natives_setRng (s : State) (w : Word) : (s.setRng w).natives = s.natives := rfl
@[simp] theorem State.ports_setRng (s : State) (w : Word) : (s.setRng w).ports = s.ports := rfl
@[simp] theorem State.draws_setRng (s : State) (w : Word) : (s.setRng w).draws = s.draws := rfl
@[simp] theorem State.ctxs_setRng (s : State) (w : Word) : (s.setRng w).ctxs = s.ctxs := rfl
@[simp] theorem State.bank_setRng (s : State) (w : Word) (d : Ctx) : (s.setRng w).bank d = s.bank d := rfl
@[simp] theorem State.x_setRng (s : State) (w : Word) (d : Ctx) (r' : Reg) : (s.setRng w).x d r' = s.x d r' := rfl
@[simp] theorem State.f_setRng (s : State) (w : Word) (d : Ctx) (r' : Reg) : (s.setRng w).f d r' = s.f d r' := rfl
@[simp] theorem State.vfStored_setRng (s : State) (w : Word) (d : Ctx) (r' : Reg) : (s.setRng w).vfStored d r' = s.vfStored d r' := rfl
@[simp] theorem State.acc_setRng (s : State) (w : Word) (d : Ctx) : (s.setRng w).acc d = s.acc d := rfl
@[simp] theorem State.q_setRng (s : State) (w : Word) (d : Ctx) : (s.setRng w).q d = s.q d := rfl
@[simp] theorem State.i_setRng (s : State) (w : Word) (d : Ctx) : (s.setRng w).i d = s.i d := rfl
@[simp] theorem State.hi_setRng (s : State) (w : Word) (d : Ctx) : (s.setRng w).hi d = s.hi d := rfl
@[simp] theorem State.lo_setRng (s : State) (w : Word) (d : Ctx) : (s.setRng w).lo d = s.lo d := rfl

@[simp] theorem State.cfg_memWrite (s : State) (a n v : Nat) : (s.memWrite a n v).cfg = s.cfg := rfl
@[simp] theorem State.rng_memWrite (s : State) (a n v : Nat) : (s.memWrite a n v).rng = s.rng := rfl
@[simp] theorem State.spad_memWrite (s : State) (a n v : Nat) : (s.memWrite a n v).spad = s.spad := rfl
@[simp] theorem State.status_memWrite (s : State) (a n v : Nat) : (s.memWrite a n v).status = s.status := rfl
@[simp] theorem State.fcode_memWrite (s : State) (a n v : Nat) : (s.memWrite a n v).fcode = s.fcode := rfl
@[simp] theorem State.fcmd_memWrite (s : State) (a n v : Nat) : (s.memWrite a n v).fcmd = s.fcmd := rfl
@[simp] theorem State.finfo0_memWrite (s : State) (a n v : Nat) : (s.memWrite a n v).finfo0 = s.finfo0 := rfl
@[simp] theorem State.finfo1_memWrite (s : State) (a n v : Nat) : (s.memWrite a n v).finfo1 = s.finfo1 := rfl
@[simp] theorem State.finfo2_memWrite (s : State) (a n v : Nat) : (s.memWrite a n v).finfo2 = s.finfo2 := rfl
@[simp] theorem State.inbox_memWrite (s : State) (a n v : Nat) : (s.memWrite a n v).inbox = s.inbox := rfl
@[simp] theorem State.natives_memWrite (s : State) (a n v : Nat) : (s.memWrite a n v).natives = s.natives := rfl
@[simp] theorem State.ports_memWrite (s : State) (a n v : Nat) : (s.memWrite a n v).ports = s.ports := rfl
@[simp] theorem State.draws_memWrite (s : State) (a n v : Nat) : (s.memWrite a n v).draws = s.draws := rfl
@[simp] theorem State.ctxs_memWrite (s : State) (a n v : Nat) : (s.memWrite a n v).ctxs = s.ctxs := rfl
@[simp] theorem State.bank_memWrite (s : State) (a n v : Nat) (d : Ctx) : (s.memWrite a n v).bank d = s.bank d := rfl
@[simp] theorem State.x_memWrite (s : State) (a n v : Nat) (d : Ctx) (r' : Reg) : (s.memWrite a n v).x d r' = s.x d r' := rfl
@[simp] theorem State.f_memWrite (s : State) (a n v : Nat) (d : Ctx) (r' : Reg) : (s.memWrite a n v).f d r' = s.f d r' := rfl
@[simp] theorem State.vfStored_memWrite (s : State) (a n v : Nat) (d : Ctx) (r' : Reg) : (s.memWrite a n v).vfStored d r' = s.vfStored d r' := rfl
@[simp] theorem State.acc_memWrite (s : State) (a n v : Nat) (d : Ctx) : (s.memWrite a n v).acc d = s.acc d := rfl
@[simp] theorem State.q_memWrite (s : State) (a n v : Nat) (d : Ctx) : (s.memWrite a n v).q d = s.q d := rfl
@[simp] theorem State.i_memWrite (s : State) (a n v : Nat) (d : Ctx) : (s.memWrite a n v).i d = s.i d := rfl
@[simp] theorem State.hi_memWrite (s : State) (a n v : Nat) (d : Ctx) : (s.memWrite a n v).hi d = s.hi d := rfl
@[simp] theorem State.lo_memWrite (s : State) (a n v : Nat) (d : Ctx) : (s.memWrite a n v).lo d = s.lo d := rfl

@[simp] theorem State.cfg_logTransfers (s : State) (ts : List Transfer) : (s.logTransfers ts).cfg = s.cfg := rfl
@[simp] theorem State.rng_logTransfers (s : State) (ts : List Transfer) : (s.logTransfers ts).rng = s.rng := rfl
@[simp] theorem State.spad_logTransfers (s : State) (ts : List Transfer) : (s.logTransfers ts).spad = s.spad := rfl
@[simp] theorem State.arena_logTransfers (s : State) (ts : List Transfer) : (s.logTransfers ts).arena = s.arena := rfl
@[simp] theorem State.status_logTransfers (s : State) (ts : List Transfer) : (s.logTransfers ts).status = s.status := rfl
@[simp] theorem State.fcode_logTransfers (s : State) (ts : List Transfer) : (s.logTransfers ts).fcode = s.fcode := rfl
@[simp] theorem State.fcmd_logTransfers (s : State) (ts : List Transfer) : (s.logTransfers ts).fcmd = s.fcmd := rfl
@[simp] theorem State.finfo0_logTransfers (s : State) (ts : List Transfer) : (s.logTransfers ts).finfo0 = s.finfo0 := rfl
@[simp] theorem State.finfo1_logTransfers (s : State) (ts : List Transfer) : (s.logTransfers ts).finfo1 = s.finfo1 := rfl
@[simp] theorem State.finfo2_logTransfers (s : State) (ts : List Transfer) : (s.logTransfers ts).finfo2 = s.finfo2 := rfl
@[simp] theorem State.inbox_logTransfers (s : State) (ts : List Transfer) : (s.logTransfers ts).inbox = s.inbox := rfl
@[simp] theorem State.natives_logTransfers (s : State) (ts : List Transfer) : (s.logTransfers ts).natives = s.natives := rfl
@[simp] theorem State.draws_logTransfers (s : State) (ts : List Transfer) : (s.logTransfers ts).draws = s.draws := rfl
@[simp] theorem State.ctxs_logTransfers (s : State) (ts : List Transfer) : (s.logTransfers ts).ctxs = s.ctxs := rfl
@[simp] theorem State.bank_logTransfers (s : State) (ts : List Transfer) (d : Ctx) : (s.logTransfers ts).bank d = s.bank d := rfl
@[simp] theorem State.x_logTransfers (s : State) (ts : List Transfer) (d : Ctx) (r' : Reg) : (s.logTransfers ts).x d r' = s.x d r' := rfl
@[simp] theorem State.f_logTransfers (s : State) (ts : List Transfer) (d : Ctx) (r' : Reg) : (s.logTransfers ts).f d r' = s.f d r' := rfl
@[simp] theorem State.vfStored_logTransfers (s : State) (ts : List Transfer) (d : Ctx) (r' : Reg) : (s.logTransfers ts).vfStored d r' = s.vfStored d r' := rfl
@[simp] theorem State.acc_logTransfers (s : State) (ts : List Transfer) (d : Ctx) : (s.logTransfers ts).acc d = s.acc d := rfl
@[simp] theorem State.q_logTransfers (s : State) (ts : List Transfer) (d : Ctx) : (s.logTransfers ts).q d = s.q d := rfl
@[simp] theorem State.i_logTransfers (s : State) (ts : List Transfer) (d : Ctx) : (s.logTransfers ts).i d = s.i d := rfl
@[simp] theorem State.hi_logTransfers (s : State) (ts : List Transfer) (d : Ctx) : (s.logTransfers ts).hi d = s.hi d := rfl
@[simp] theorem State.lo_logTransfers (s : State) (ts : List Transfer) (d : Ctx) : (s.logTransfers ts).lo d = s.lo d := rfl

@[simp] theorem State.rng_setRng (s : State) (w : Word) : (s.setRng w).rng = w := rfl
@[simp] theorem State.arena_memWrite (s : State) (a n v : Nat) : (s.memWrite a n v).arena = s.arena.write a n v := rfl
@[simp] theorem State.ports_logTransfers (s : State) (ts : List Transfer) :
    (s.logTransfers ts).ports = { s.ports with transfers := s.ports.transfers ++ ts } := rfl

@[simp] theorem cfg_raiseFatal (w : Dword) (e : Cause) (s : State) : (raiseFatal w e s).cfg = s.cfg := rfl
@[simp] theorem rng_raiseFatal (w : Dword) (e : Cause) (s : State) : (raiseFatal w e s).rng = s.rng := rfl
@[simp] theorem spad_raiseFatal (w : Dword) (e : Cause) (s : State) : (raiseFatal w e s).spad = s.spad := rfl
@[simp] theorem arena_raiseFatal (w : Dword) (e : Cause) (s : State) : (raiseFatal w e s).arena = s.arena := rfl
@[simp] theorem inbox_raiseFatal (w : Dword) (e : Cause) (s : State) : (raiseFatal w e s).inbox = s.inbox := rfl
@[simp] theorem natives_raiseFatal (w : Dword) (e : Cause) (s : State) : (raiseFatal w e s).natives = s.natives := rfl
@[simp] theorem draws_raiseFatal (w : Dword) (e : Cause) (s : State) : (raiseFatal w e s).draws = s.draws := rfl
@[simp] theorem ctxs_raiseFatal (w : Dword) (e : Cause) (s : State) : (raiseFatal w e s).ctxs = s.ctxs := rfl
@[simp] theorem status_raiseFatal (w : Dword) (e : Cause) (s : State) : (raiseFatal w e s).status = 1 := rfl
@[simp] theorem fcode_raiseFatal (w : Dword) (e : Cause) (s : State) :
    (raiseFatal w e s).fcode = BitVec.ofNat 32 e.code.number := rfl
@[simp] theorem fcmd_raiseFatal (w : Dword) (e : Cause) (s : State) : (raiseFatal w e s).fcmd = w := rfl
@[simp] theorem finfo0_raiseFatal (w : Dword) (e : Cause) (s : State) :
    (raiseFatal w e s).finfo0 = BitVec.ofNat 64 e.info0 := rfl
@[simp] theorem finfo1_raiseFatal (w : Dword) (e : Cause) (s : State) :
    (raiseFatal w e s).finfo1 = BitVec.ofNat 64 e.info1 := rfl
@[simp] theorem finfo2_raiseFatal (w : Dword) (e : Cause) (s : State) :
    (raiseFatal w e s).finfo2 = BitVec.ofNat 64 e.info2 := rfl
@[simp] theorem completion_raiseFatal (w : Dword) (e : Cause) (s : State) :
    (raiseFatal w e s).ports.completion = some .fatal := rfl
@[simp] theorem halted_raiseFatal (w : Dword) (e : Cause) (s : State) : (raiseFatal w e s).halted = true := by
  simp [State.halted]

@[simp] theorem cfg_beginCommand (s : State) : (beginCommand s).cfg = s.cfg := rfl
@[simp] theorem rng_beginCommand (s : State) : (beginCommand s).rng = s.rng := rfl
@[simp] theorem spad_beginCommand (s : State) : (beginCommand s).spad = s.spad := rfl
@[simp] theorem arena_beginCommand (s : State) : (beginCommand s).arena = s.arena := rfl
@[simp] theorem status_beginCommand (s : State) : (beginCommand s).status = s.status := rfl
@[simp] theorem fcode_beginCommand (s : State) : (beginCommand s).fcode = s.fcode := rfl
@[simp] theorem fcmd_beginCommand (s : State) : (beginCommand s).fcmd = s.fcmd := rfl
@[simp] theorem finfo0_beginCommand (s : State) : (beginCommand s).finfo0 = s.finfo0 := rfl
@[simp] theorem finfo1_beginCommand (s : State) : (beginCommand s).finfo1 = s.finfo1 := rfl
@[simp] theorem finfo2_beginCommand (s : State) : (beginCommand s).finfo2 = s.finfo2 := rfl
@[simp] theorem inbox_beginCommand (s : State) : (beginCommand s).inbox = s.inbox := rfl
@[simp] theorem natives_beginCommand (s : State) : (beginCommand s).natives = s.natives := rfl
@[simp] theorem draws_beginCommand (s : State) : (beginCommand s).draws = s.draws := rfl
@[simp] theorem ctxs_beginCommand (s : State) : (beginCommand s).ctxs = s.ctxs := rfl
@[simp] theorem cfg_endCommand (s : State) : (endCommand s).cfg = s.cfg := rfl
@[simp] theorem rng_endCommand (s : State) : (endCommand s).rng = s.rng := rfl
@[simp] theorem spad_endCommand (s : State) : (endCommand s).spad = s.spad := rfl
@[simp] theorem arena_endCommand (s : State) : (endCommand s).arena = s.arena := rfl
@[simp] theorem status_endCommand (s : State) : (endCommand s).status = s.status := rfl
@[simp] theorem fcode_endCommand (s : State) : (endCommand s).fcode = s.fcode := rfl
@[simp] theorem fcmd_endCommand (s : State) : (endCommand s).fcmd = s.fcmd := rfl
@[simp] theorem finfo0_endCommand (s : State) : (endCommand s).finfo0 = s.finfo0 := rfl
@[simp] theorem finfo1_endCommand (s : State) : (endCommand s).finfo1 = s.finfo1 := rfl
@[simp] theorem finfo2_endCommand (s : State) : (endCommand s).finfo2 = s.finfo2 := rfl
/-- The inputs move past a command that completed (10_state.md R33). -/
theorem inbox_endCommand (s : State) : (endCommand s).inbox = if s.halted then s.inbox else s.inbox.tail := rfl
@[simp] theorem natives_endCommand (s : State) : (endCommand s).natives = s.natives := rfl
@[simp] theorem ctxs_endCommand (s : State) : (endCommand s).ctxs = s.ctxs := rfl
@[simp] theorem draws_endCommand (s : State) : (endCommand s).draws = s.draws + 1 := rfl
@[simp] theorem halted_beginCommand (s : State) : (beginCommand s).halted = s.halted := rfl
@[simp] theorem halted_endCommand (s : State) : (endCommand s).halted = s.halted := rfl

/-! `peek`: each update in one lemma. -/

/-! A vector register reads the same after a write of any other register. -/

@[simp] theorem State.vf_setX (s : State) (c : Ctx) (r : Reg) (v : Quad) (d : Ctx) (r' : Reg) : (s.setX c r v).vf d r' = s.vf d r' := by
  simp [State.vf]
@[simp] theorem State.vf_setXD (s : State) (c : Ctx) (r : Reg) (v : Dword) (d : Ctx) (r' : Reg) : (s.setXD c r v).vf d r' = s.vf d r' := by
  simp [State.vf]
@[simp] theorem State.vf_setXW (s : State) (c : Ctx) (r : Reg) (v : Word) (d : Ctx) (r' : Reg) : (s.setXW c r v).vf d r' = s.vf d r' := by
  simp [State.vf]
@[simp] theorem State.vf_setF (s : State) (c : Ctx) (r : Reg) (v : Word) (d : Ctx) (r' : Reg) : (s.setF c r v).vf d r' = s.vf d r' := by
  simp [State.vf]
@[simp] theorem State.vf_setAcc (s : State) (c : Ctx) (v : Quad) (d : Ctx) (r' : Reg) : (s.setAcc c v).vf d r' = s.vf d r' := by
  simp [State.vf]
@[simp] theorem State.vf_setQ (s : State) (c : Ctx) (v : Word) (d : Ctx) (r' : Reg) : (s.setQ c v).vf d r' = s.vf d r' := by
  simp [State.vf]
@[simp] theorem State.vf_setI (s : State) (c : Ctx) (v : Word) (d : Ctx) (r' : Reg) : (s.setI c v).vf d r' = s.vf d r' := by
  simp [State.vf]
@[simp] theorem State.vf_setHi (s : State) (c : Ctx) (v : Quad) (d : Ctx) (r' : Reg) : (s.setHi c v).vf d r' = s.vf d r' := by
  simp [State.vf]
@[simp] theorem State.vf_setLo (s : State) (c : Ctx) (v : Quad) (d : Ctx) (r' : Reg) : (s.setLo c v).vf d r' = s.vf d r' := by
  simp [State.vf]

theorem peek_setX (s : State) (c : Ctx) (r : Reg) (v : Quad) (l : Loc) :
    (s.setX c r v).peek l = if l = .x c r ∧ r ≠ 0 then v else s.peek l := by
  cases l <;> simp [State.peek, State.x_setX, and_assoc]
theorem peek_setF (s : State) (c : Ctx) (r : Reg) (v : Word) (l : Loc) :
    (s.setF c r v).peek l = if l = .f c r then v.setWidth 128 else s.peek l := by
  cases l <;> simp [State.peek, State.f_setF, apply_ite (BitVec.setWidth 128)]
theorem peek_setVf (s : State) (c : Ctx) (r : Reg) (v : Quad) (l : Loc) :
    (s.setVf c r v).peek l = if l = .vf c r then v else s.peek l := by
  cases l <;> simp [State.peek, State.vfStored_setVf]
theorem peek_setAcc (s : State) (c : Ctx) (v : Quad) (l : Loc) :
    (s.setAcc c v).peek l = if l = .acc c then v else s.peek l := by
  cases l <;> simp [State.peek, State.acc_setAcc]
theorem peek_setQ (s : State) (c : Ctx) (v : Word) (l : Loc) :
    (s.setQ c v).peek l = if l = .q c then v.setWidth 128 else s.peek l := by
  cases l <;> simp [State.peek, State.q_setQ, apply_ite (BitVec.setWidth 128)]
theorem peek_setI (s : State) (c : Ctx) (v : Word) (l : Loc) :
    (s.setI c v).peek l = if l = .i c then v.setWidth 128 else s.peek l := by
  cases l <;> simp [State.peek, State.i_setI, apply_ite (BitVec.setWidth 128)]
theorem peek_setHi (s : State) (c : Ctx) (v : Quad) (l : Loc) :
    (s.setHi c v).peek l = if l = .hi c then v else s.peek l := by
  cases l <;> simp [State.peek, State.hi_setHi]
theorem peek_setLo (s : State) (c : Ctx) (v : Quad) (l : Loc) :
    (s.setLo c v).peek l = if l = .lo c then v else s.peek l := by
  cases l <;> simp [State.peek, State.lo_setLo]
theorem peek_setRng (s : State) (w : Word) (l : Loc) :
    (s.setRng w).peek l = if l = .rng then w.setWidth 128 else s.peek l := by
  cases l <;> simp [State.peek]
@[simp] theorem peek_logTransfers (s : State) (ts : List Transfer) (l : Loc) : (s.logTransfers ts).peek l = s.peek l := by
  cases l <;> rfl
theorem peek_memWrite (s : State) (a n v : Nat) (l : Loc) :
    (s.memWrite a n v).peek l =
      match l with
      | .arena b => ((s.arena.write a n v).byteAt b).setWidth 128
      | l => s.peek l := by
  cases l <;> rfl
theorem peek_raiseFatal (w : Dword) (e : Cause) (s : State) {l : Loc} (h : l ∉ statusLocs) :
    (raiseFatal w e s).peek l = s.peek l := by
  cases l <;> first | rfl | exact absurd (by simp [statusLocs]) h
@[simp] theorem peek_beginCommand (s : State) (l : Loc) : (beginCommand s).peek l = s.peek l := by cases l <;> rfl
@[simp] theorem peek_endCommand (s : State) (l : Loc) : (endCommand s).peek l = s.peek l := by cases l <;> rfl

/-- Register 0 reads 0 (10_state.md R23). -/
@[simp] theorem State.x_zero (s : State) (c : Ctx) : s.x c 0 = 0 := if_pos rfl
/-- Vector register 0 reads its constant (10_state.md R28). -/
@[simp] theorem State.vf_zero (s : State) (c : Ctx) : s.vf c 0 = vf0Const := if_pos rfl
theorem State.vf_pos (s : State) (c : Ctx) {r : Reg} (h : r ≠ 0) : s.vf c r = s.vfStored c r := if_neg h
/-- A write to register 0 is discarded (10_state.md R23). -/
@[simp] theorem State.setX_zero (s : State) (c : Ctx) (v : Quad) : s.setX c 0 v = s := if_pos rfl

end Sys2Proof.Machine
end

