-- ==== Sys2Proof/Laws/Frames.lean ====
section
/-! SUPPORT. One lemma for each shared operation: what it answers, what it writes, what it leaves alone. -/

namespace Sys2Proof.Machine

theorem Frame.refl (w : Set Loc) (s : State) : Frame w s s := ⟨fun _ _ => rfl, rfl, rfl, rfl⟩

theorem Frame.mono {v w : Set Loc} {s t : State} (h : Frame v s t) (hvw : v ⊆ w) : Frame w s t :=
  ⟨fun l hl => h.1 l (fun hm => hl (hvw hm)), h.2⟩

theorem Frame.trans {w : Set Loc} {s t u : State} (h : Frame w s t) (h' : Frame w t u) : Frame w s u :=
  ⟨fun l hl => (h'.1 l hl).trans (h.1 l hl), h'.2.1.trans h.2.1, h'.2.2.1.trans h.2.2.1, h'.2.2.2.trans h.2.2.2⟩

theorem frame_setX (s : State) (c : Ctx) (r : Reg) (v : Quad) : Frame {.x c r} s (s.setX c r v) :=
  ⟨fun l hl => by rw [peek_setX, if_neg (fun h => hl h.1)], by simp, by simp, by simp⟩
theorem frame_setXD (s : State) (c : Ctx) (r : Reg) (v : Dword) : Frame {.x c r} s (s.setXD c r v) := frame_setX ..
theorem frame_setXW (s : State) (c : Ctx) (r : Reg) (v : Word) : Frame {.x c r} s (s.setXW c r v) := frame_setX ..
theorem frame_setF (s : State) (c : Ctx) (r : Reg) (v : Word) : Frame {.f c r} s (s.setF c r v) :=
  ⟨fun l hl => by rw [peek_setF]; exact if_neg hl, by simp, by simp, by simp⟩
theorem frame_setVf (s : State) (c : Ctx) (r : Reg) (v : Quad) : Frame {.vf c r} s (s.setVf c r v) :=
  ⟨fun l hl => by rw [peek_setVf]; exact if_neg hl, by simp, by simp, by simp⟩
theorem frame_maskVf (s : State) (c : Ctx) (r : Reg) (dest : Mask) (g : Nat → Word) :
    Frame {.vf c r} s (s.maskVf c r dest g) := frame_setVf ..
theorem frame_setAcc (s : State) (c : Ctx) (v : Quad) : Frame {.acc c} s (s.setAcc c v) :=
  ⟨fun l hl => by rw [peek_setAcc]; exact if_neg hl, by simp, by simp, by simp⟩
theorem frame_maskAcc (s : State) (c : Ctx) (dest : Mask) (g : Nat → Word) :
    Frame {.acc c} s (s.maskAcc c dest g) := frame_setAcc ..
theorem frame_setQ (s : State) (c : Ctx) (v : Word) : Frame {.q c} s (s.setQ c v) :=
  ⟨fun l hl => by rw [peek_setQ]; exact if_neg hl, by simp, by simp, by simp⟩
theorem frame_setHi (s : State) (c : Ctx) (v : Quad) : Frame {.hi c} s (s.setHi c v) :=
  ⟨fun l hl => by rw [peek_setHi]; exact if_neg hl, by simp, by simp, by simp⟩
theorem frame_setLo (s : State) (c : Ctx) (v : Quad) : Frame {.lo c} s (s.setLo c v) :=
  ⟨fun l hl => by rw [peek_setLo]; exact if_neg hl, by simp, by simp, by simp⟩
theorem frame_setRng (s : State) (w : Word) : Frame {.rng} s (s.setRng w) :=
  ⟨fun l hl => by rw [peek_setRng]; exact if_neg hl, by simp, by simp, by simp⟩
theorem frame_setPairD (s : State) (c : Ctx) (lo hi : Dword) : Frame {.lo c, .hi c} s (s.setPairD c lo hi) :=
  ((frame_setLo s c _).mono (by simp)).trans ((frame_setHi _ c _).mono (by simp))
theorem frame_setPairLanes (s : State) (c : Ctx) (rd : Reg) (lo hi : Nat → Word) :
    Frame {.lo c, .hi c, .x c rd} s (s.setPairLanes c rd lo hi) :=
  (((frame_setLo s c _).mono (by simp)).trans ((frame_setHi _ c _).mono (by simp))).trans
    ((frame_setX _ c rd _).mono (by simp))
theorem frame_logTransfers (s : State) (ts : List Transfer) : Frame ∅ s (s.logTransfers ts) :=
  ⟨fun l _ => by simp, rfl, rfl, rfl⟩
theorem frame_memWrite (s : State) (h : s.arena.wf = true) (a n v : Nat) : Frame (arenaLocs a n) s (s.memWrite a n v) := by
  refine ⟨fun l hl => ?_, rfl, rfl, rfl⟩
  rw [peek_memWrite]
  cases l with
  | arena b =>
    have hb : ¬(a ≤ b ∧ b < a + n) := fun hb => hl ⟨b - a, by omega, by congr 1; omega⟩
    simp only [State.peek]
    rw [Memory.byteAt_write h, if_neg hb]
  | _ => rfl
theorem frame_raiseFatal (w : Dword) (e : Cause) (s : State) : Frame statusLocs s (raiseFatal w e s) :=
  ⟨fun _ hl => peek_raiseFatal w e s hl, rfl, rfl, rfl⟩

/-- What taking a fatal does, whole (60_exceptions.md R421). -/
theorem fatalOutcome_raiseFatal (w : Dword) (e : Cause) (s : State) (h0 : e.info0 < 2 ^ 64) (h1 : e.info1 < 2 ^ 64)
    (h2 : e.info2 < 2 ^ 64) : FatalOutcome w e.code.number e.info0 e.info1 e.info2 s (raiseFatal w e s) := by
  refine ⟨frame_raiseFatal .., rfl, ?_, rfl, ?_, ?_, ?_, rfl, rfl⟩
  · rw [fcode_raiseFatal, BitVec.toNat_ofNat]; cases e.code <;> rfl
  · rw [finfo0_raiseFatal, BitVec.toNat_ofNat, Nat.mod_eq_of_lt h0]
  · rw [finfo1_raiseFatal, BitVec.toNat_ofNat, Nat.mod_eq_of_lt h1]
  · rw [finfo2_raiseFatal, BitVec.toNat_ofNat, Nat.mod_eq_of_lt h2]

/-! Scalar results. -/

theorem toNat_of_toInt {n : Nat} (w : BitVec n) : (w.toInt % (2 ^ n : Nat)).toNat = w.toNat := by
  rw [BitVec.toInt_eq_toNat_bmod, Int.bmod_emod, Int.emod_eq_of_lt (by omega) (by exact_mod_cast w.isLt)]
  exact Int.toNat_natCast _

theorem sext64_toNat {n : Nat} (w : BitVec n) (h : n ≤ 64) : (sext64 w).toNat = (w.toInt % 2 ^ 64).toNat := by
  rw [← toNat_of_toInt (sext64 w), sext64, BitVec.toInt_signExtend_of_le h]
  norm_num

theorem x_setXD (s : State) (c : Ctx) (r : Reg) (d : Dword) :
    (s.setXD c r d).x c r = if r = 0 then 0 else setD0 (s.x c r) d := by
  rw [State.setXD, State.x_setX]
  by_cases h : r = 0 <;> simp [h]

/-- What a scalar result does, whole (10_state.md R23, R25). -/
theorem writesD0_setXD (s : State) (c : Ctx) (r : Reg) (d : Dword) (v : Int) (h : d.toNat = (v % 2 ^ 64).toNat) :
    WritesD0 c r v s (s.setXD c r d) := by
  refine ⟨frame_setXD .., ?_⟩
  rw [x_setXD]
  by_cases hr : r = 0
  · simp [hr]
  · rw [if_neg hr, if_neg hr, setD0_toNat, putD0, h]

/-- What a quadword result does, whole (10_state.md R23, R25). -/
theorem writesX_setX (s : State) (c : Ctx) (r : Reg) (v : Quad) : WritesX c r v s (s.setX c r v) := by
  refine ⟨frame_setX .., ?_⟩
  rw [State.x_setX]
  by_cases h : r = 0 <;> simp [h]

theorem xd_toNat (s : State) (c : Ctx) (r : Reg) : (s.xd c r).toNat = (s.x c r).toNat % 2 ^ 64 := d0_toNat _
theorem xw_toNat (s : State) (c : Ctx) (r : Reg) : (s.xw c r).toNat = (s.x c r).toNat % 2 ^ 32 := w0_toNat _

/-! Vector results. -/

/-- Each lane of a masked vector result (44_vu_arith.md R270). -/
theorem lane_maskVf (s : State) (c : Ctx) (fd : Reg) (dest : Mask) (g : Nat → Word) {i : Nat} (hi : i < 4) :
    lane 32 ((s.maskVf c fd dest g).vfStored c fd) i =
      if dest.getLsbD i then g i else lane 32 (s.vfStored c fd) i := by
  rw [State.maskVf, State.vfStored_setVf, if_pos ⟨rfl, rfl⟩, lane_maskMerge _ _ _ hi]

/-- Each lane of a masked accumulator result (44_vu_arith.md R270, R274). -/
theorem lane_maskAcc (s : State) (c : Ctx) (dest : Mask) (g : Nat → Word) {i : Nat} (hi : i < 4) :
    lane 32 ((s.maskAcc c dest g).acc c) i = if dest.getLsbD i then g i else lane 32 (s.acc c) i := by
  rw [State.maskAcc, State.acc_setAcc, if_pos rfl, lane_maskMerge _ _ _ hi]

/-! Checked accesses (42_scalar_mem.md R200). -/

theorem guarded_none {i : Instr} {e : Option Cause} (h : e = none) (body : State → Res) (s : State) :
    guarded i e body s = body s := by rw [h]; rfl

theorem guarded_some {i : Instr} {e : Option Cause} {k : Cause} (h : e = some k) (body : State → Res) (s : State) :
    guarded i e body s = .next (raiseFatal (encode i) k s) := by rw [h]; rfl

theorem accessFault_none {size ea a n : Nat} (ha : a % n = 0) (hb : a + n ≤ size) : accessFault size ea a n = none := by
  rw [accessFault, if_neg (by simpa using ha), if_neg (by omega)]

theorem accessFault_align {size ea a n : Nat} (ha : a % n ≠ 0) :
    accessFault size ea a n = some { code := .align, info0 := ea, info1 := n, info2 := 0 } := by
  rw [accessFault, if_pos ha]

theorem accessFault_arena {size ea a n : Nat} (ha : a % n = 0) (hb : size < a + n) :
    accessFault size ea a n = some { code := .arena, info0 := a, info1 := n, info2 := 0 } := by
  rw [accessFault, if_neg (by simpa using ha), if_pos hb]

/-- A load inside the arena. -/
theorem loadOp_next (i : Instr) {ea a n : Nat} (put : Nat → State → State) (s : State) (ha : a % n = 0)
    (hb : a + n ≤ s.cfg.arenaSize) :
    loadOp i ea a n put s = .next (put (s.arena.read a n) (s.logTransfers
      [{ write := false, addr := a, len := n, data := BitVec.ofNat 128 (s.arena.read a n) }])) := by
  rw [loadOp, accessFault_none ha hb]; rfl

/-- A store inside the arena. -/
theorem storeOp_next (i : Instr) {ea n : Nat} (v : Quad) (s : State) (ha : ea % n = 0)
    (hb : ea + n ≤ s.cfg.arenaSize) :
    storeOp i ea n v s = .next ((s.memWrite ea n v.toNat).logTransfers
      [{ write := true, addr := ea, len := n, data := BitVec.ofNat 128 (v.toNat % 256 ^ n) }]) := by
  rw [storeOp, accessFault_none ha hb]; rfl

/-- A completed store writes its own bytes and nothing else. -/
theorem frame_storeOp (i : Instr) {ea n : Nat} (v : Quad) (s t : State) (ha : ea % n = 0)
    (hb : ea + n ≤ s.cfg.arenaSize) (hw : s.arena.wf = true) (h : storeOp i ea n v s = .next t) :
    Frame (arenaLocs ea n) s t := by
  rw [storeOp_next i v s ha hb] at h
  cases h
  exact (frame_memWrite s hw ea n _).trans ((frame_logTransfers _ _).mono (by simp))

/-- A load completed into any destination writes what its `put` writes. -/
theorem Frame.after_log {w : Set Loc} {s t : State} {ts : List Transfer} (h : Frame w (s.logTransfers ts) t) :
    Frame w s t := ((frame_logTransfers s ts).mono (by simp)).trans h

/-! DMA (47_dma.md). -/

theorem dmaFault_none {il : Bool} {o : DmaOperands} {sspan mspan size : Nat} (h1 : o.madr % 16 = 0)
    (h2 : o.sadr % 16 = 0) (h3 : o.qwc ≤ 1024) (h4 : il = true → o.qwc % 4 = 0) (h5 : o.sadr < spadSize)
    (h6 : o.sadr + sspan ≤ spadSize) (h7 : o.madr + mspan ≤ size) : dmaFault il o sspan mspan size = none := by
  have h4' : ¬(il = true ∧ o.qwc % 4 ≠ 0) := fun h => h.2 (h4 h.1)
  simp only [dmaFault]
  rw [if_neg (by omega), if_neg (by omega), if_neg (by omega), if_neg h4', if_neg (by omega), if_neg (by omega)]

end Sys2Proof.Machine
end

