-- ==== Sys2Proof/Laws/Exec.lean ====
section
/-! SUPPORT. What a command can do, said once: the shapes of a next state, one lemma for each shape and one for all commands. -/

namespace Sys2Proof.Machine

/-- Registers of context `c` and `RNG` written, nothing else; nothing stored in general register 0. -/
structure RegStep (c : Ctx) (s t : State) : Prop where
  rest   : t = { s with ctxs := t.ctxs, rng := t.rng }
  others : ∀ d, d ≠ c → t.bank d = s.bank d
  zero   : (s.bank c).x[0] = 0 → (t.bank c).x[0] = 0

theorem RegStep.refl (c : Ctx) (s : State) : RegStep c s s := ⟨rfl, fun _ _ => rfl, id⟩

theorem RegStep.trans {c : Ctx} {s t u : State} (h : RegStep c s t) (h' : RegStep c t u) : RegStep c s u := by
  refine ⟨?_, fun d hd => (h'.others d hd).trans (h.others d hd), fun z => h'.zero (h.zero z)⟩
  rw [h'.rest, h.rest]

theorem RegStep.setBank (s : State) (c : Ctx) (k : Context) (hz : (s.bank c).x[0] = 0 → k.x[0] = 0) :
    RegStep c s (s.setBank c k) :=
  ⟨rfl, fun _ hd => State.bank_setBank_ne s k hd, fun z => by rw [State.bank_setBank_same]; exact hz z⟩

theorem RegStep.setX (s : State) (c : Ctx) (r : Reg) (v : Quad) : RegStep c s (s.setX c r v) := by
  unfold State.setX
  split
  · exact .refl ..
  · next hr =>
    refine .setBank _ _ _ fun z => ?_
    rw [← z]
    exact Vector.getElem_set_ne r.isLt (by decide) (fun e => hr (Fin.ext e))
theorem RegStep.setXD (s : State) (c : Ctx) (r : Reg) (v : Dword) : RegStep c s (s.setXD c r v) := .setX ..
theorem RegStep.setXW (s : State) (c : Ctx) (r : Reg) (v : Word) : RegStep c s (s.setXW c r v) := .setX ..
theorem RegStep.setF (s : State) (c : Ctx) (r : Reg) (v : Word) : RegStep c s (s.setF c r v) := .setBank _ _ _ id
theorem RegStep.setVf (s : State) (c : Ctx) (r : Reg) (v : Quad) : RegStep c s (s.setVf c r v) := .setBank _ _ _ id
theorem RegStep.setAcc (s : State) (c : Ctx) (v : Quad) : RegStep c s (s.setAcc c v) := .setBank _ _ _ id
theorem RegStep.setQ (s : State) (c : Ctx) (v : Word) : RegStep c s (s.setQ c v) := .setBank _ _ _ id
theorem RegStep.setHi (s : State) (c : Ctx) (v : Quad) : RegStep c s (s.setHi c v) := .setBank _ _ _ id
theorem RegStep.setLo (s : State) (c : Ctx) (v : Quad) : RegStep c s (s.setLo c v) := .setBank _ _ _ id
theorem RegStep.maskVf (s : State) (c : Ctx) (r : Reg) (d : Mask) (g : Nat → Word) : RegStep c s (s.maskVf c r d g) := .setVf ..
theorem RegStep.maskAcc (s : State) (c : Ctx) (d : Mask) (g : Nat → Word) : RegStep c s (s.maskAcc c d g) := .setAcc ..
theorem RegStep.setPairD (s : State) (c : Ctx) (lo hi : Dword) : RegStep c s (s.setPairD c lo hi) :=
  .trans (.setLo ..) (.setHi ..)
theorem RegStep.setPairLanes (s : State) (c : Ctx) (rd : Reg) (lo hi : Nat → Word) :
    RegStep c s (s.setPairLanes c rd lo hi) := .trans (.trans (.setLo ..) (.setHi ..)) (.setX ..)
theorem RegStep.setRng (s : State) (c : Ctx) (w : Word) : RegStep c s (s.setRng w) := ⟨rfl, fun _ _ => rfl, id⟩

/-- What a register step leaves alone. -/
theorem RegStep.peek {c : Ctx} {s t : State} (h : RegStep c s t) {l : Loc} (hl : l.context ≠ some c)
    (hr : l = .rng → t.rng = s.rng) : t.peek l = s.peek l := by
  have hb := h.others
  have hs := h.rest
  cases l <;>
    simp only [Loc.context, ne_eq, Option.some.injEq, State.peek, State.x, State.f, State.vfStored, State.acc, State.q,
      State.i, State.hi, State.lo] at hl ⊢
  all_goals first
    | rw [hb _ hl]
    | rw [hr rfl]
    | rw [hs]

/-! Reset fills the whole scratchpad: its lemmas keep proofs from computing that. -/

theorem spad_serveReset (d : Option Dword) (s : State) : (serveReset d s).spad = spadAfterReset s := by
  unfold serveReset; dsimp only

theorem wf_spadAfterReset (s : State) : (spadAfterReset s).wf = true := by
  unfold spadAfterReset; generalize spadSize = n
  exact Memory.wf_fill rfl ..

theorem below_spadAfterReset (s : State) : (spadAfterReset s).below spadSize = true := by
  unfold spadAfterReset; generalize spadSize = n
  exact Memory.below_fill rfl (Nat.le_of_eq (Nat.zero_add n)) _

/-- The units whose commands write registers alone. -/
def registerUnits : List (BitVec 4) := [0x0#4, 0x1#4, 0x3#4, 0x4#4, 0x5#4, 0x6#4]
theorem registerUnits_0 : 0x0#4 ∈ registerUnits := by decide
theorem registerUnits_1 : 0x1#4 ∈ registerUnits := by decide
theorem registerUnits_3 : 0x3#4 ∈ registerUnits := by decide
theorem registerUnits_4 : 0x4#4 ∈ registerUnits := by decide
theorem registerUnits_5 : 0x5#4 ∈ registerUnits := by decide
theorem registerUnits_6 : 0x6#4 ∈ registerUnits := by decide

/-- The loads' `fn` codes and the bytes each reads (42_scalar_mem.md R203 to R213, R219, R221). -/
def loadBytes : List (Nat × Nat) :=
  [(0x01, 1), (0x02, 1), (0x03, 2), (0x04, 2), (0x05, 4), (0x06, 8), (0x07, 16), (0x08, 4), (0x09, 4), (0x0A, 8),
    (0x0B, 8), (0x11, 4), (0x13, 16)]

/-- The stores' `fn` codes and the bytes each writes (42_scalar_mem.md R214 to R218, R220, R222). -/
def storeBytes : List (Nat × Nat) :=
  [(0x0C, 1), (0x0D, 2), (0x0E, 4), (0x0F, 8), (0x10, 16), (0x12, 4), (0x14, 16)]

/-- What a command's next state can be. -/
inductive Shape (i : Instr) (s t : State) : Prop where
  /-- Registers of its context, with `RNG` as it was. -/
  | regs (unit : i.opcode.1 ∈ registerUnits) (step : RegStep i.ctx s t) (rng : t.rng = s.rng)
  /-- The same, with `RNG` written. -/
  | rng (op : i.opcode ∈ [(0x5#4, 0x05#8), (0x5#4, 0x06#8)]) (step : RegStep i.ctx s t)
  /-- A fatal. -/
  | fatal (e : Cause) (unit : i.opcode.1 ∈ [0x2#4, 0x7#4]) (eq : t = raiseFatal (encode i) e s)
  /-- A load. -/
  | load (a n : Nat) (unit : i.opcode.1 = 0x2#4) (fn : (i.opcode.2.toNat, n) ∈ loadBytes) (align : a % n = 0)
      (bound : a + n ≤ s.cfg.arenaSize)
      (step : RegStep i.ctx (s.logTransfers
        [{ write := false, addr := a, len := n, data := BitVec.ofNat 128 (s.arena.read a n) }]) t) (rng : t.rng = s.rng)
  /-- A store. -/
  | store (a n v : Nat) (unit : i.opcode.1 = 0x2#4) (fn : (i.opcode.2.toNat, n) ∈ storeBytes) (align : a % n = 0)
      (bound : a + n ≤ s.cfg.arenaSize)
      (eq : t = (s.memWrite a n v).logTransfers
        [{ write := true, addr := a, len := n, data := BitVec.ofNat 128 (v % 256 ^ n) }])
  /-- A copy to the scratchpad. -/
  | toSpad (f : Nat → Nat) (a n : Nat) (ts : List Transfer) (op : i.opcode ∈ [(0x7#4, 0x01#8), (0x7#4, 0x03#8)])
      (bound : a + 16 * n ≤ spadSize)
      (eq : t = { s with spad := Memory.copyQuads s.arena f (destAt a) s.spad n }.logTransfers ts)
  /-- A copy to the arena. -/
  | fromSpad (f : Nat → Nat) (a n : Nat) (ts : List Transfer) (op : i.opcode ∈ [(0x7#4, 0x02#8), (0x7#4, 0x04#8)])
      (bound : a + 16 * n ≤ s.cfg.arenaSize)
      (eq : t = { s with arena := Memory.copyQuads s.spad f (destAt a) s.arena n }.logTransfers ts)
  /-- A native call. -/
  | native (q : NativeRequest) (v : Dword) (stores : List Host.Cell) (op : i.opcode = (0x8#4, 0x01#8))
      (eq : t = ({ s with
        arena := Memory.storeAll s.cfg.arenaSize s.arena stores
        natives := s.natives.tail
        ports := { s.ports with native := some q } } : State).setXD i.ctx s.cfg.ncallRet v)

theorem guarded_cases {i : Instr} {e : Option Cause} {body : State → Res} {s t : State}
    (h : guarded i e body s = .next t) :
    (∃ k, e = some k ∧ t = raiseFatal (encode i) k s) ∨ (e = none ∧ body s = .next t) := by
  cases e with
  | none => exact .inr ⟨rfl, h⟩
  | some k => cases h; exact .inl ⟨k, rfl, rfl⟩

theorem accessFault_cases {size ea a n : Nat} (h : accessFault size ea a n = none) : a % n = 0 ∧ a + n ≤ size := by
  unfold accessFault at h
  split at h
  · cases h
  · split at h
    · cases h
    · omega

/-- A load's next state. -/
theorem Shape.of_load {i : Instr} {ea a n : Nat} {put : Nat → State → State} {s t : State} (hu : i.opcode.1 = 0x2#4)
    (hf : (i.opcode.2.toNat, n) ∈ loadBytes) (hp : ∀ v u, RegStep i.ctx u (put v u) ∧ (put v u).rng = u.rng)
    (h : loadOp i ea a n put s = .next t) : Shape i s t := by
  obtain ⟨k, -, rfl⟩ | ⟨he, hb⟩ := guarded_cases h
  · exact .fatal k (by simp [hu]) rfl
  · cases hb
    obtain ⟨ha, hb⟩ := accessFault_cases he
    exact .load a n hu hf ha hb (hp _ _).1 (hp _ _).2

/-- A store's next state. -/
theorem Shape.of_store {i : Instr} {ea n : Nat} {v : Quad} {s t : State} (hu : i.opcode.1 = 0x2#4)
    (hf : (i.opcode.2.toNat, n) ∈ storeBytes) (h : storeOp i ea n v s = .next t) : Shape i s t := by
  obtain ⟨k, -, rfl⟩ | ⟨he, hb⟩ := guarded_cases h
  · exact .fatal k (by simp [hu]) rfl
  · cases hb
    obtain ⟨ha, hb⟩ := accessFault_cases he
    exact .store ea n v.toNat hu hf ha hb rfl

theorem dmaFault_cases {il : Bool} {o : DmaOperands} {sspan mspan size : Nat}
    (h : dmaFault il o sspan mspan size = none) :
    o.madr % 16 = 0 ∧ o.sadr % 16 = 0 ∧ o.qwc ≤ 1024 ∧ (il = true → o.qwc % 4 = 0) ∧ o.sadr < spadSize ∧
      o.sadr + sspan ≤ spadSize ∧ o.madr + mspan ≤ size := by
  unfold dmaFault at h
  split at h
  · cases h
  split at h
  · cases h
  split at h
  · cases h
  split at h
  · cases h
  split at h
  · cases h
  split at h
  · cases h
  next h1 h2 h3 h4 h5 h6 =>
    exact ⟨by omega, by omega, by omega, fun hi => not_not.mp fun hq => h4 ⟨hi, hq⟩, by omega, by omega, by omega⟩

theorem denseSpan_eq {il : Bool} {q : Nat} (h : il = true → q % 4 = 0) : denseSpan il q = 16 * q := by
  unfold denseSpan
  cases il with
  | false => rfl
  | true => simp only [if_true]; have := h rfl; omega

/-- A DMA command to the scratchpad. -/
theorem Shape.of_dmaToSpad {i : Instr} {il : Bool} {o : DmaOperands} {s t : State}
    (hop : i.opcode ∈ [(0x7#4, 0x01#8), (0x7#4, 0x03#8)]) (h : dmaToSpad i il o s = .next t) : Shape i s t := by
  obtain ⟨k, -, rfl⟩ | ⟨he, hb⟩ := guarded_cases h
  · refine .fatal k ?_ rfl
    simp only [List.mem_cons, List.not_mem_nil, or_false] at hop ⊢
    rcases hop with hop | hop <;> simp [hop]
  · cases hb
    obtain ⟨-, -, -, h4, -, h6, -⟩ := dmaFault_cases he
    rw [denseSpan_eq h4] at h6
    exact .toSpad _ _ _ _ hop h6 rfl

/-- A DMA command to the arena. -/
theorem Shape.of_dmaFromSpad {i : Instr} {il : Bool} {o : DmaOperands} {s t : State}
    (hop : i.opcode ∈ [(0x7#4, 0x02#8), (0x7#4, 0x04#8)]) (h : dmaFromSpad i il o s = .next t) : Shape i s t := by
  obtain ⟨k, -, rfl⟩ | ⟨he, hb⟩ := guarded_cases h
  · refine .fatal k ?_ rfl
    simp only [List.mem_cons, List.not_mem_nil, or_false] at hop ⊢
    rcases hop with hop | hop <;> simp [hop]
  · cases hb
    obtain ⟨-, -, -, h4, -, -, h7⟩ := dmaFault_cases he
    rw [denseSpan_eq h4] at h7
    exact .fromSpad _ _ _ _ hop h7 rfl

/-- A native call's next state. -/
theorem Shape.of_ncall {c : Ctx} {rs : Reg} {s t : State} (h : execNcall c rs s = .next t) : Shape (.ncall c rs) s t := by
  unfold execNcall at h
  dsimp only at h
  split at h
  · cases h
  · cases h
    exact .native _ _ _ rfl rfl

/-- The shape of every command's next state, command by command. -/
def Shape.Statement (i : Instr) : Prop := ∀ s t : State, exec i s = .next t → Shape i s t

theorem Shape.nop (ctx : Ctx) : Shape.Statement (.nop ctx) := fun s t h => by
  cases h; exact .regs registerUnits_0 (.refl ..) rfl
theorem Shape.ctxinit (ctx : Ctx) : Shape.Statement (.ctxinit ctx) := fun s t h => by
  cases h; exact .regs registerUnits_0 (.setBank _ _ _ fun _ => by simp [Context.anyFrom]) rfl
theorem Shape.vfcopy (ctx sctx : Ctx) : Shape.Statement (.vfcopy ctx sctx) := fun s t h => by
  cases h; exact .regs registerUnits_0 (.setBank _ _ _ id) rfl
theorem Shape.mfc1 (ctx : Ctx) (rd rs : Reg) : Shape.Statement (.mfc1 ctx rd rs) := fun s t h => by
  cases h; exact .regs registerUnits_0 (.setXD ..) (by simp)
theorem Shape.mtc1 (ctx : Ctx) (rd rs : Reg) : Shape.Statement (.mtc1 ctx rd rs) := fun s t h => by
  cases h; exact .regs registerUnits_0 (.setF ..) (by simp)
theorem Shape.qmfc2 (ctx : Ctx) (rd rs : Reg) : Shape.Statement (.qmfc2 ctx rd rs) := fun s t h => by
  cases h; exact .regs registerUnits_0 (.setX ..) (by simp)
theorem Shape.qmtc2 (ctx : Ctx) (rd rs : Reg) : Shape.Statement (.qmtc2 ctx rd rs) := fun s t h => by
  cases h; exact .regs registerUnits_0 (.setVf ..) (by simp)
theorem Shape.addu (ctx : Ctx) (rd rs rt : Reg) : Shape.Statement (.addu ctx rd rs rt) := fun s t h => by
  cases h; exact .regs registerUnits_1 (.setXD ..) (by simp)
theorem Shape.subu (ctx : Ctx) (rd rs rt : Reg) : Shape.Statement (.subu ctx rd rs rt) := fun s t h => by
  cases h; exact .regs registerUnits_1 (.setXD ..) (by simp)
theorem Shape.daddu (ctx : Ctx) (rd rs rt : Reg) : Shape.Statement (.daddu ctx rd rs rt) := fun s t h => by
  cases h; exact .regs registerUnits_1 (.setXD ..) (by simp)
theorem Shape.dsubu (ctx : Ctx) (rd rs rt : Reg) : Shape.Statement (.dsubu ctx rd rs rt) := fun s t h => by
  cases h; exact .regs registerUnits_1 (.setXD ..) (by simp)
theorem Shape.addiu (ctx : Ctx) (rt rs : Reg) (imm : BitVec 16) : Shape.Statement (.addiu ctx rt rs imm) := fun s t h => by
  cases h; exact .regs registerUnits_1 (.setXD ..) (by simp)
theorem Shape.daddiu (ctx : Ctx) (rt rs : Reg) (imm : BitVec 16) : Shape.Statement (.daddiu ctx rt rs imm) := fun s t h => by
  cases h; exact .regs registerUnits_1 (.setXD ..) (by simp)
theorem Shape.and (ctx : Ctx) (rd rs rt : Reg) : Shape.Statement (.and ctx rd rs rt) := fun s t h => by
  cases h; exact .regs registerUnits_1 (.setXD ..) (by simp)
theorem Shape.or (ctx : Ctx) (rd rs rt : Reg) : Shape.Statement (.or ctx rd rs rt) := fun s t h => by
  cases h; exact .regs registerUnits_1 (.setXD ..) (by simp)
theorem Shape.xor (ctx : Ctx) (rd rs rt : Reg) : Shape.Statement (.xor ctx rd rs rt) := fun s t h => by
  cases h; exact .regs registerUnits_1 (.setXD ..) (by simp)
theorem Shape.nor (ctx : Ctx) (rd rs rt : Reg) : Shape.Statement (.nor ctx rd rs rt) := fun s t h => by
  cases h; exact .regs registerUnits_1 (.setXD ..) (by simp)
theorem Shape.andi (ctx : Ctx) (rt rs : Reg) (imm : BitVec 16) : Shape.Statement (.andi ctx rt rs imm) := fun s t h => by
  cases h; exact .regs registerUnits_1 (.setXD ..) (by simp)
theorem Shape.ori (ctx : Ctx) (rt rs : Reg) (imm : BitVec 16) : Shape.Statement (.ori ctx rt rs imm) := fun s t h => by
  cases h; exact .regs registerUnits_1 (.setXD ..) (by simp)
theorem Shape.xori (ctx : Ctx) (rt rs : Reg) (imm : BitVec 16) : Shape.Statement (.xori ctx rt rs imm) := fun s t h => by
  cases h; exact .regs registerUnits_1 (.setXD ..) (by simp)
theorem Shape.lui (ctx : Ctx) (rt : Reg) (imm : BitVec 16) : Shape.Statement (.lui ctx rt imm) := fun s t h => by
  cases h; exact .regs registerUnits_1 (.setXD ..) (by simp)
theorem Shape.sll (ctx : Ctx) (rd rt : Reg) (sa : Fin 32) : Shape.Statement (.sll ctx rd rt sa) := fun s t h => by
  cases h; exact .regs registerUnits_1 (.setXD ..) (by simp)
theorem Shape.srl (ctx : Ctx) (rd rt : Reg) (sa : Fin 32) : Shape.Statement (.srl ctx rd rt sa) := fun s t h => by
  cases h; exact .regs registerUnits_1 (.setXD ..) (by simp)
theorem Shape.sra (ctx : Ctx) (rd rt : Reg) (sa : Fin 32) : Shape.Statement (.sra ctx rd rt sa) := fun s t h => by
  cases h; exact .regs registerUnits_1 (.setXD ..) (by simp)
theorem Shape.sllv (ctx : Ctx) (rd rs rt : Reg) : Shape.Statement (.sllv ctx rd rs rt) := fun s t h => by
  cases h; exact .regs registerUnits_1 (.setXD ..) (by simp)
theorem Shape.srlv (ctx : Ctx) (rd rs rt : Reg) : Shape.Statement (.srlv ctx rd rs rt) := fun s t h => by
  cases h; exact .regs registerUnits_1 (.setXD ..) (by simp)
theorem Shape.srav (ctx : Ctx) (rd rs rt : Reg) : Shape.Statement (.srav ctx rd rs rt) := fun s t h => by
  cases h; exact .regs registerUnits_1 (.setXD ..) (by simp)
theorem Shape.dsll (ctx : Ctx) (rd rt : Reg) (sa : Fin 64) : Shape.Statement (.dsll ctx rd rt sa) := fun s t h => by
  cases h; exact .regs registerUnits_1 (.setXD ..) (by simp)
theorem Shape.dsrl (ctx : Ctx) (rd rt : Reg) (sa : Fin 64) : Shape.Statement (.dsrl ctx rd rt sa) := fun s t h => by
  cases h; exact .regs registerUnits_1 (.setXD ..) (by simp)
theorem Shape.dsra (ctx : Ctx) (rd rt : Reg) (sa : Fin 64) : Shape.Statement (.dsra ctx rd rt sa) := fun s t h => by
  cases h; exact .regs registerUnits_1 (.setXD ..) (by simp)
theorem Shape.dsllv (ctx : Ctx) (rd rs rt : Reg) : Shape.Statement (.dsllv ctx rd rs rt) := fun s t h => by
  cases h; exact .regs registerUnits_1 (.setXD ..) (by simp)
theorem Shape.dsrlv (ctx : Ctx) (rd rs rt : Reg) : Shape.Statement (.dsrlv ctx rd rs rt) := fun s t h => by
  cases h; exact .regs registerUnits_1 (.setXD ..) (by simp)
theorem Shape.dsrav (ctx : Ctx) (rd rs rt : Reg) : Shape.Statement (.dsrav ctx rd rs rt) := fun s t h => by
  cases h; exact .regs registerUnits_1 (.setXD ..) (by simp)
theorem Shape.slt (ctx : Ctx) (rd rs rt : Reg) : Shape.Statement (.slt ctx rd rs rt) := fun s t h => by
  cases h; exact .regs registerUnits_1 (.setXD ..) (by simp)
theorem Shape.sltu (ctx : Ctx) (rd rs rt : Reg) : Shape.Statement (.sltu ctx rd rs rt) := fun s t h => by
  cases h; exact .regs registerUnits_1 (.setXD ..) (by simp)
theorem Shape.slti (ctx : Ctx) (rt rs : Reg) (imm : BitVec 16) : Shape.Statement (.slti ctx rt rs imm) := fun s t h => by
  cases h; exact .regs registerUnits_1 (.setXD ..) (by simp)
theorem Shape.sltiu (ctx : Ctx) (rt rs : Reg) (imm : BitVec 16) : Shape.Statement (.sltiu ctx rt rs imm) := fun s t h => by
  cases h; exact .regs registerUnits_1 (.setXD ..) (by simp)
theorem Shape.movn (ctx : Ctx) (rd rs rt : Reg) : Shape.Statement (.movn ctx rd rs rt) := fun s t h => by
  simp only [exec, execMovn] at h
  split at h
  · cases h; exact .regs registerUnits_1 (.setXD ..) (by simp)
  · cases h; exact .regs registerUnits_1 (.refl ..) (by simp)
theorem Shape.movz (ctx : Ctx) (rd rs rt : Reg) : Shape.Statement (.movz ctx rd rs rt) := fun s t h => by
  simp only [exec, execMovz] at h
  split at h
  · cases h; exact .regs registerUnits_1 (.setXD ..) (by simp)
  · cases h; exact .regs registerUnits_1 (.refl ..) (by simp)
theorem Shape.lb (ctx : Ctx) (rt base : Reg) (off : BitVec 16) : Shape.Statement (.lb ctx rt base off) := fun s t h => by
  simp only [exec, execLb] at h
  exact .of_load rfl (show ((0x01#8).toNat, 1) ∈ loadBytes by decide) (fun _ _ => ⟨.setXD .., by simp⟩) h
theorem Shape.lbu (ctx : Ctx) (rt base : Reg) (off : BitVec 16) : Shape.Statement (.lbu ctx rt base off) := fun s t h => by
  simp only [exec, execLbu] at h
  exact .of_load rfl (show ((0x02#8).toNat, 1) ∈ loadBytes by decide) (fun _ _ => ⟨.setXD .., by simp⟩) h
theorem Shape.lh (ctx : Ctx) (rt base : Reg) (off : BitVec 16) : Shape.Statement (.lh ctx rt base off) := fun s t h => by
  simp only [exec, execLh] at h
  exact .of_load rfl (show ((0x03#8).toNat, 2) ∈ loadBytes by decide) (fun _ _ => ⟨.setXD .., by simp⟩) h
theorem Shape.lhu (ctx : Ctx) (rt base : Reg) (off : BitVec 16) : Shape.Statement (.lhu ctx rt base off) := fun s t h => by
  simp only [exec, execLhu] at h
  exact .of_load rfl (show ((0x04#8).toNat, 2) ∈ loadBytes by decide) (fun _ _ => ⟨.setXD .., by simp⟩) h
theorem Shape.lw (ctx : Ctx) (rt base : Reg) (off : BitVec 16) : Shape.Statement (.lw ctx rt base off) := fun s t h => by
  simp only [exec, execLw] at h
  exact .of_load rfl (show ((0x05#8).toNat, 4) ∈ loadBytes by decide) (fun _ _ => ⟨.setXD .., by simp⟩) h
theorem Shape.ld (ctx : Ctx) (rt base : Reg) (off : BitVec 16) : Shape.Statement (.ld ctx rt base off) := fun s t h => by
  simp only [exec, execLd] at h
  exact .of_load rfl (show ((0x06#8).toNat, 8) ∈ loadBytes by decide) (fun _ _ => ⟨.setXD .., by simp⟩) h
theorem Shape.lq (ctx : Ctx) (rt base : Reg) (off : BitVec 16) : Shape.Statement (.lq ctx rt base off) := fun s t h => by
  simp only [exec, execLq] at h
  exact .of_load rfl (show ((0x07#8).toNat, 16) ∈ loadBytes by decide) (fun _ _ => ⟨.setX .., by simp⟩) h
theorem Shape.lwl (ctx : Ctx) (rt base : Reg) (off : BitVec 16) : Shape.Statement (.lwl ctx rt base off) := fun s t h => by
  simp only [exec, execLwl] at h
  exact .of_load rfl (show ((0x08#8).toNat, 4) ∈ loadBytes by decide) (fun _ _ => ⟨.setXD .., by simp⟩) h
theorem Shape.lwr (ctx : Ctx) (rt base : Reg) (off : BitVec 16) : Shape.Statement (.lwr ctx rt base off) := fun s t h => by
  simp only [exec, execLwr] at h
  exact .of_load rfl (show ((0x09#8).toNat, 4) ∈ loadBytes by decide) (fun _ _ => by split <;> [exact ⟨.setXD .., by simp⟩; exact ⟨.setXW .., by simp⟩]) h
theorem Shape.ldl (ctx : Ctx) (rt base : Reg) (off : BitVec 16) : Shape.Statement (.ldl ctx rt base off) := fun s t h => by
  simp only [exec, execLdl] at h
  exact .of_load rfl (show ((0x0A#8).toNat, 8) ∈ loadBytes by decide) (fun _ _ => ⟨.setXD .., by simp⟩) h
theorem Shape.ldr (ctx : Ctx) (rt base : Reg) (off : BitVec 16) : Shape.Statement (.ldr ctx rt base off) := fun s t h => by
  simp only [exec, execLdr] at h
  exact .of_load rfl (show ((0x0B#8).toNat, 8) ∈ loadBytes by decide) (fun _ _ => ⟨.setXD .., by simp⟩) h
theorem Shape.sb (ctx : Ctx) (rt base : Reg) (off : BitVec 16) : Shape.Statement (.sb ctx rt base off) := fun s t h => by
  simp only [exec, execSb] at h
  exact .of_store rfl (show ((0x0C#8).toNat, 1) ∈ storeBytes by decide) h
theorem Shape.sh (ctx : Ctx) (rt base : Reg) (off : BitVec 16) : Shape.Statement (.sh ctx rt base off) := fun s t h => by
  simp only [exec, execSh] at h
  exact .of_store rfl (show ((0x0D#8).toNat, 2) ∈ storeBytes by decide) h
theorem Shape.sw (ctx : Ctx) (rt base : Reg) (off : BitVec 16) : Shape.Statement (.sw ctx rt base off) := fun s t h => by
  simp only [exec, execSw] at h
  exact .of_store rfl (show ((0x0E#8).toNat, 4) ∈ storeBytes by decide) h
theorem Shape.sd (ctx : Ctx) (rt base : Reg) (off : BitVec 16) : Shape.Statement (.sd ctx rt base off) := fun s t h => by
  simp only [exec, execSd] at h
  exact .of_store rfl (show ((0x0F#8).toNat, 8) ∈ storeBytes by decide) h
theorem Shape.sq (ctx : Ctx) (rt base : Reg) (off : BitVec 16) : Shape.Statement (.sq ctx rt base off) := fun s t h => by
  simp only [exec, execSq] at h
  exact .of_store rfl (show ((0x10#8).toNat, 16) ∈ storeBytes by decide) h
theorem Shape.lwc1 (ctx : Ctx) (rt base : Reg) (off : BitVec 16) : Shape.Statement (.lwc1 ctx rt base off) := fun s t h => by
  simp only [exec, execLwc1] at h
  exact .of_load rfl (show ((0x11#8).toNat, 4) ∈ loadBytes by decide) (fun _ _ => ⟨.setF .., by simp⟩) h
theorem Shape.swc1 (ctx : Ctx) (rt base : Reg) (off : BitVec 16) : Shape.Statement (.swc1 ctx rt base off) := fun s t h => by
  simp only [exec, execSwc1] at h
  exact .of_store rfl (show ((0x12#8).toNat, 4) ∈ storeBytes by decide) h
theorem Shape.lqc2 (ctx : Ctx) (rt base : Reg) (off : BitVec 16) : Shape.Statement (.lqc2 ctx rt base off) := fun s t h => by
  simp only [exec, execLqc2] at h
  exact .of_load rfl (show ((0x13#8).toNat, 16) ∈ loadBytes by decide) (fun _ _ => ⟨.setVf .., by simp⟩) h
theorem Shape.sqc2 (ctx : Ctx) (rt base : Reg) (off : BitVec 16) : Shape.Statement (.sqc2 ctx rt base off) := fun s t h => by
  simp only [exec, execSqc2] at h
  exact .of_store rfl (show ((0x14#8).toNat, 16) ∈ storeBytes by decide) h
theorem Shape.mult (ctx : Ctx) (rd rs rt : Reg) : Shape.Statement (.mult ctx rd rs rt) := fun s t h => by
  cases h; exact .regs registerUnits_3 (.trans (.setPairD ..) (.setXD ..)) (by simp)
theorem Shape.multu (ctx : Ctx) (rd rs rt : Reg) : Shape.Statement (.multu ctx rd rs rt) := fun s t h => by
  cases h; exact .regs registerUnits_3 (.trans (.setPairD ..) (.setXD ..)) (by simp)
theorem Shape.div (ctx : Ctx) (rs rt : Reg) : Shape.Statement (.div ctx rs rt) := fun s t h => by
  simp only [exec, execDiv] at h
  split at h
  · cases h; exact .regs registerUnits_3 (.setPairD ..) (by simp)
  · cases h; exact .regs registerUnits_3 (.setPairD ..) (by simp)
theorem Shape.divu (ctx : Ctx) (rs rt : Reg) : Shape.Statement (.divu ctx rs rt) := fun s t h => by
  simp only [exec, execDivu] at h
  split at h
  · cases h; exact .regs registerUnits_3 (.setPairD ..) (by simp)
  · cases h; exact .regs registerUnits_3 (.setPairD ..) (by simp)
theorem Shape.mfhi (ctx : Ctx) (rd : Reg) : Shape.Statement (.mfhi ctx rd) := fun s t h => by
  cases h; exact .regs registerUnits_3 (.setXD ..) (by simp)
theorem Shape.mflo (ctx : Ctx) (rd : Reg) : Shape.Statement (.mflo ctx rd) := fun s t h => by
  cases h; exact .regs registerUnits_3 (.setXD ..) (by simp)
theorem Shape.mthi (ctx : Ctx) (rs : Reg) : Shape.Statement (.mthi ctx rs) := fun s t h => by
  cases h; exact .regs registerUnits_3 (.setHi ..) (by simp)
theorem Shape.mtlo (ctx : Ctx) (rs : Reg) : Shape.Statement (.mtlo ctx rs) := fun s t h => by
  cases h; exact .regs registerUnits_3 (.setLo ..) (by simp)
theorem Shape.pmfhi (ctx : Ctx) (rd : Reg) : Shape.Statement (.pmfhi ctx rd) := fun s t h => by
  cases h; exact .regs registerUnits_3 (.setX ..) (by simp)
theorem Shape.pmflo (ctx : Ctx) (rd : Reg) : Shape.Statement (.pmflo ctx rd) := fun s t h => by
  cases h; exact .regs registerUnits_3 (.setX ..) (by simp)
theorem Shape.pmthi (ctx : Ctx) (rs : Reg) : Shape.Statement (.pmthi ctx rs) := fun s t h => by
  cases h; exact .regs registerUnits_3 (.setHi ..) (by simp)
theorem Shape.pmtlo (ctx : Ctx) (rs : Reg) : Shape.Statement (.pmtlo ctx rs) := fun s t h => by
  cases h; exact .regs registerUnits_3 (.setLo ..) (by simp)
theorem Shape.pmulth (ctx : Ctx) (rd rs rt : Reg) : Shape.Statement (.pmulth ctx rd rs rt) := fun s t h => by
  cases h; exact .regs registerUnits_3 (.setPairLanes ..) (by simp)
theorem Shape.pmaddh (ctx : Ctx) (rd rs rt : Reg) : Shape.Statement (.pmaddh ctx rd rs rt) := fun s t h => by
  cases h; exact .regs registerUnits_3 (.setPairLanes ..) (by simp)
theorem Shape.vadd (ctx : Ctx) (fd fs ft : Reg) (dest : Mask) : Shape.Statement (.vadd ctx fd fs ft dest) := fun s t h => by
  cases h; exact .regs registerUnits_4 (.maskVf ..) (by simp)
theorem Shape.vaddBc (ctx : Ctx) (fd fs ft : Reg) (dest : Mask) (bc : Lane) : Shape.Statement (.vaddBc ctx fd fs ft dest bc) := fun s t h => by
  cases h; exact .regs registerUnits_4 (.maskVf ..) (by simp)
theorem Shape.vsub (ctx : Ctx) (fd fs ft : Reg) (dest : Mask) : Shape.Statement (.vsub ctx fd fs ft dest) := fun s t h => by
  cases h; exact .regs registerUnits_4 (.maskVf ..) (by simp)
theorem Shape.vsubBc (ctx : Ctx) (fd fs ft : Reg) (dest : Mask) (bc : Lane) : Shape.Statement (.vsubBc ctx fd fs ft dest bc) := fun s t h => by
  cases h; exact .regs registerUnits_4 (.maskVf ..) (by simp)
theorem Shape.vmul (ctx : Ctx) (fd fs ft : Reg) (dest : Mask) : Shape.Statement (.vmul ctx fd fs ft dest) := fun s t h => by
  cases h; exact .regs registerUnits_4 (.maskVf ..) (by simp)
theorem Shape.vmulBc (ctx : Ctx) (fd fs ft : Reg) (dest : Mask) (bc : Lane) : Shape.Statement (.vmulBc ctx fd fs ft dest bc) := fun s t h => by
  cases h; exact .regs registerUnits_4 (.maskVf ..) (by simp)
theorem Shape.vmula (ctx : Ctx) (fs ft : Reg) (dest : Mask) : Shape.Statement (.vmula ctx fs ft dest) := fun s t h => by
  cases h; exact .regs registerUnits_4 (.maskAcc ..) (by simp)
theorem Shape.vmulaBc (ctx : Ctx) (fs ft : Reg) (dest : Mask) (bc : Lane) : Shape.Statement (.vmulaBc ctx fs ft dest bc) := fun s t h => by
  cases h; exact .regs registerUnits_4 (.maskAcc ..) (by simp)
theorem Shape.vmadda (ctx : Ctx) (fs ft : Reg) (dest : Mask) : Shape.Statement (.vmadda ctx fs ft dest) := fun s t h => by
  cases h; exact .regs registerUnits_4 (.maskAcc ..) (by simp)
theorem Shape.vmaddaBc (ctx : Ctx) (fs ft : Reg) (dest : Mask) (bc : Lane) : Shape.Statement (.vmaddaBc ctx fs ft dest bc) := fun s t h => by
  cases h; exact .regs registerUnits_4 (.maskAcc ..) (by simp)
theorem Shape.vmsuba (ctx : Ctx) (fs ft : Reg) (dest : Mask) : Shape.Statement (.vmsuba ctx fs ft dest) := fun s t h => by
  cases h; exact .regs registerUnits_4 (.maskAcc ..) (by simp)
theorem Shape.vmsubaBc (ctx : Ctx) (fs ft : Reg) (dest : Mask) (bc : Lane) : Shape.Statement (.vmsubaBc ctx fs ft dest bc) := fun s t h => by
  cases h; exact .regs registerUnits_4 (.maskAcc ..) (by simp)
theorem Shape.vmadd (ctx : Ctx) (fd fs ft : Reg) (dest : Mask) : Shape.Statement (.vmadd ctx fd fs ft dest) := fun s t h => by
  cases h; exact .regs registerUnits_4 (.maskVf ..) (by simp)
theorem Shape.vmaddBc (ctx : Ctx) (fd fs ft : Reg) (dest : Mask) (bc : Lane) : Shape.Statement (.vmaddBc ctx fd fs ft dest bc) := fun s t h => by
  cases h; exact .regs registerUnits_4 (.maskVf ..) (by simp)
theorem Shape.vmsub (ctx : Ctx) (fd fs ft : Reg) (dest : Mask) : Shape.Statement (.vmsub ctx fd fs ft dest) := fun s t h => by
  cases h; exact .regs registerUnits_4 (.maskVf ..) (by simp)
theorem Shape.vmsubBc (ctx : Ctx) (fd fs ft : Reg) (dest : Mask) (bc : Lane) : Shape.Statement (.vmsubBc ctx fd fs ft dest bc) := fun s t h => by
  cases h; exact .regs registerUnits_4 (.maskVf ..) (by simp)
theorem Shape.vaddq (ctx : Ctx) (fd fs : Reg) (dest : Mask) : Shape.Statement (.vaddq ctx fd fs dest) := fun s t h => by
  cases h; exact .regs registerUnits_4 (.maskVf ..) (by simp)
theorem Shape.vsubq (ctx : Ctx) (fd fs : Reg) (dest : Mask) : Shape.Statement (.vsubq ctx fd fs dest) := fun s t h => by
  cases h; exact .regs registerUnits_4 (.maskVf ..) (by simp)
theorem Shape.vmulq (ctx : Ctx) (fd fs : Reg) (dest : Mask) : Shape.Statement (.vmulq ctx fd fs dest) := fun s t h => by
  cases h; exact .regs registerUnits_4 (.maskVf ..) (by simp)
theorem Shape.vaddi (ctx : Ctx) (fd fs : Reg) (dest : Mask) : Shape.Statement (.vaddi ctx fd fs dest) := fun s t h => by
  cases h; exact .regs registerUnits_4 (.maskVf ..) (by simp)
theorem Shape.vsubi (ctx : Ctx) (fd fs : Reg) (dest : Mask) : Shape.Statement (.vsubi ctx fd fs dest) := fun s t h => by
  cases h; exact .regs registerUnits_4 (.maskVf ..) (by simp)
theorem Shape.vmuli (ctx : Ctx) (fd fs : Reg) (dest : Mask) : Shape.Statement (.vmuli ctx fd fs dest) := fun s t h => by
  cases h; exact .regs registerUnits_4 (.maskVf ..) (by simp)
theorem Shape.vdiv (ctx : Ctx) (fs ft : Reg) (fsf ftf : Lane) : Shape.Statement (.vdiv ctx fs ft fsf ftf) := fun s t h => by
  cases h; exact .regs registerUnits_5 (.setQ ..) (by simp)
theorem Shape.vsqrt (ctx : Ctx) (ft : Reg) (ftf : Lane) : Shape.Statement (.vsqrt ctx ft ftf) := fun s t h => by
  cases h; exact .regs registerUnits_5 (.setQ ..) (by simp)
theorem Shape.vrsqrt (ctx : Ctx) (fs ft : Reg) (fsf ftf : Lane) : Shape.Statement (.vrsqrt ctx fs ft fsf ftf) := fun s t h => by
  cases h; exact .regs registerUnits_5 (.setQ ..) (by simp)
theorem Shape.vrget (ctx : Ctx) (fd : Reg) (dest : Mask) : Shape.Statement (.vrget ctx fd dest) := fun s t h => by
  cases h; exact .regs registerUnits_5 (.maskVf ..) (by simp)
theorem Shape.vrnext (ctx : Ctx) (fd : Reg) (dest : Mask) : Shape.Statement (.vrnext ctx fd dest) := fun s t h => by
  cases h; exact .rng (show (0x5#4, 0x05#8) ∈ _ by decide) (.trans (.setRng ..) (.maskVf ..))
theorem Shape.vrxor (ctx : Ctx) (fs : Reg) (fsf : Lane) : Shape.Statement (.vrxor ctx fs fsf) := fun s t h => by
  cases h; exact .rng (show (0x5#4, 0x06#8) ∈ _ by decide) (.setRng ..)
theorem Shape.vitof0 (ctx : Ctx) (fd fs : Reg) (dest : Mask) : Shape.Statement (.vitof0 ctx fd fs dest) := fun s t h => by
  cases h; exact .regs registerUnits_5 (.maskVf ..) (by simp)
theorem Shape.vitof12 (ctx : Ctx) (fd fs : Reg) (dest : Mask) : Shape.Statement (.vitof12 ctx fd fs dest) := fun s t h => by
  cases h; exact .regs registerUnits_5 (.maskVf ..) (by simp)
theorem Shape.vitof15 (ctx : Ctx) (fd fs : Reg) (dest : Mask) : Shape.Statement (.vitof15 ctx fd fs dest) := fun s t h => by
  cases h; exact .regs registerUnits_5 (.maskVf ..) (by simp)
theorem Shape.vftoi0 (ctx : Ctx) (fd fs : Reg) (dest : Mask) : Shape.Statement (.vftoi0 ctx fd fs dest) := fun s t h => by
  cases h; exact .regs registerUnits_5 (.maskVf ..) (by simp)
theorem Shape.vftoi4 (ctx : Ctx) (fd fs : Reg) (dest : Mask) : Shape.Statement (.vftoi4 ctx fd fs dest) := fun s t h => by
  cases h; exact .regs registerUnits_5 (.maskVf ..) (by simp)
theorem Shape.vftoi12 (ctx : Ctx) (fd fs : Reg) (dest : Mask) : Shape.Statement (.vftoi12 ctx fd fs dest) := fun s t h => by
  cases h; exact .regs registerUnits_5 (.maskVf ..) (by simp)
theorem Shape.pextlb (ctx : Ctx) (rd rs rt : Reg) : Shape.Statement (.pextlb ctx rd rs rt) := fun s t h => by
  cases h; exact .regs registerUnits_6 (.setX ..) (by simp)
theorem Shape.pextlh (ctx : Ctx) (rd rs rt : Reg) : Shape.Statement (.pextlh ctx rd rs rt) := fun s t h => by
  cases h; exact .regs registerUnits_6 (.setX ..) (by simp)
theorem Shape.pextlw (ctx : Ctx) (rd rs rt : Reg) : Shape.Statement (.pextlw ctx rd rs rt) := fun s t h => by
  cases h; exact .regs registerUnits_6 (.setX ..) (by simp)
theorem Shape.pextub (ctx : Ctx) (rd rs rt : Reg) : Shape.Statement (.pextub ctx rd rs rt) := fun s t h => by
  cases h; exact .regs registerUnits_6 (.setX ..) (by simp)
theorem Shape.pextuh (ctx : Ctx) (rd rs rt : Reg) : Shape.Statement (.pextuh ctx rd rs rt) := fun s t h => by
  cases h; exact .regs registerUnits_6 (.setX ..) (by simp)
theorem Shape.pextuw (ctx : Ctx) (rd rs rt : Reg) : Shape.Statement (.pextuw ctx rd rs rt) := fun s t h => by
  cases h; exact .regs registerUnits_6 (.setX ..) (by simp)
theorem Shape.ppacb (ctx : Ctx) (rd rs rt : Reg) : Shape.Statement (.ppacb ctx rd rs rt) := fun s t h => by
  cases h; exact .regs registerUnits_6 (.setX ..) (by simp)
theorem Shape.ppach (ctx : Ctx) (rd rs rt : Reg) : Shape.Statement (.ppach ctx rd rs rt) := fun s t h => by
  cases h; exact .regs registerUnits_6 (.setX ..) (by simp)
theorem Shape.ppacw (ctx : Ctx) (rd rs rt : Reg) : Shape.Statement (.ppacw ctx rd rs rt) := fun s t h => by
  cases h; exact .regs registerUnits_6 (.setX ..) (by simp)
theorem Shape.paddb (ctx : Ctx) (rd rs rt : Reg) : Shape.Statement (.paddb ctx rd rs rt) := fun s t h => by
  cases h; exact .regs registerUnits_6 (.setX ..) (by simp)
theorem Shape.paddh (ctx : Ctx) (rd rs rt : Reg) : Shape.Statement (.paddh ctx rd rs rt) := fun s t h => by
  cases h; exact .regs registerUnits_6 (.setX ..) (by simp)
theorem Shape.paddw (ctx : Ctx) (rd rs rt : Reg) : Shape.Statement (.paddw ctx rd rs rt) := fun s t h => by
  cases h; exact .regs registerUnits_6 (.setX ..) (by simp)
theorem Shape.psubb (ctx : Ctx) (rd rs rt : Reg) : Shape.Statement (.psubb ctx rd rs rt) := fun s t h => by
  cases h; exact .regs registerUnits_6 (.setX ..) (by simp)
theorem Shape.psubh (ctx : Ctx) (rd rs rt : Reg) : Shape.Statement (.psubh ctx rd rs rt) := fun s t h => by
  cases h; exact .regs registerUnits_6 (.setX ..) (by simp)
theorem Shape.psubw (ctx : Ctx) (rd rs rt : Reg) : Shape.Statement (.psubw ctx rd rs rt) := fun s t h => by
  cases h; exact .regs registerUnits_6 (.setX ..) (by simp)
theorem Shape.pceqb (ctx : Ctx) (rd rs rt : Reg) : Shape.Statement (.pceqb ctx rd rs rt) := fun s t h => by
  cases h; exact .regs registerUnits_6 (.setX ..) (by simp)
theorem Shape.pceqh (ctx : Ctx) (rd rs rt : Reg) : Shape.Statement (.pceqh ctx rd rs rt) := fun s t h => by
  cases h; exact .regs registerUnits_6 (.setX ..) (by simp)
theorem Shape.pceqw (ctx : Ctx) (rd rs rt : Reg) : Shape.Statement (.pceqw ctx rd rs rt) := fun s t h => by
  cases h; exact .regs registerUnits_6 (.setX ..) (by simp)
theorem Shape.pcgtb (ctx : Ctx) (rd rs rt : Reg) : Shape.Statement (.pcgtb ctx rd rs rt) := fun s t h => by
  cases h; exact .regs registerUnits_6 (.setX ..) (by simp)
theorem Shape.pcgth (ctx : Ctx) (rd rs rt : Reg) : Shape.Statement (.pcgth ctx rd rs rt) := fun s t h => by
  cases h; exact .regs registerUnits_6 (.setX ..) (by simp)
theorem Shape.pcgtw (ctx : Ctx) (rd rs rt : Reg) : Shape.Statement (.pcgtw ctx rd rs rt) := fun s t h => by
  cases h; exact .regs registerUnits_6 (.setX ..) (by simp)
theorem Shape.pmaxh (ctx : Ctx) (rd rs rt : Reg) : Shape.Statement (.pmaxh ctx rd rs rt) := fun s t h => by
  cases h; exact .regs registerUnits_6 (.setX ..) (by simp)
theorem Shape.pmaxw (ctx : Ctx) (rd rs rt : Reg) : Shape.Statement (.pmaxw ctx rd rs rt) := fun s t h => by
  cases h; exact .regs registerUnits_6 (.setX ..) (by simp)
theorem Shape.pminh (ctx : Ctx) (rd rs rt : Reg) : Shape.Statement (.pminh ctx rd rs rt) := fun s t h => by
  cases h; exact .regs registerUnits_6 (.setX ..) (by simp)
theorem Shape.pminw (ctx : Ctx) (rd rs rt : Reg) : Shape.Statement (.pminw ctx rd rs rt) := fun s t h => by
  cases h; exact .regs registerUnits_6 (.setX ..) (by simp)
theorem Shape.psllh (ctx : Ctx) (rd rt : Reg) (sa : Fin 16) : Shape.Statement (.psllh ctx rd rt sa) := fun s t h => by
  cases h; exact .regs registerUnits_6 (.setX ..) (by simp)
theorem Shape.psrlh (ctx : Ctx) (rd rt : Reg) (sa : Fin 16) : Shape.Statement (.psrlh ctx rd rt sa) := fun s t h => by
  cases h; exact .regs registerUnits_6 (.setX ..) (by simp)
theorem Shape.psrah (ctx : Ctx) (rd rt : Reg) (sa : Fin 16) : Shape.Statement (.psrah ctx rd rt sa) := fun s t h => by
  cases h; exact .regs registerUnits_6 (.setX ..) (by simp)
theorem Shape.psllw (ctx : Ctx) (rd rt : Reg) (sa : Fin 32) : Shape.Statement (.psllw ctx rd rt sa) := fun s t h => by
  cases h; exact .regs registerUnits_6 (.setX ..) (by simp)
theorem Shape.psrlw (ctx : Ctx) (rd rt : Reg) (sa : Fin 32) : Shape.Statement (.psrlw ctx rd rt sa) := fun s t h => by
  cases h; exact .regs registerUnits_6 (.setX ..) (by simp)
theorem Shape.psraw (ctx : Ctx) (rd rt : Reg) (sa : Fin 32) : Shape.Statement (.psraw ctx rd rt sa) := fun s t h => by
  cases h; exact .regs registerUnits_6 (.setX ..) (by simp)
theorem Shape.plzcw (ctx : Ctx) (rd rs : Reg) : Shape.Statement (.plzcw ctx rd rs) := fun s t h => by
  cases h; exact .regs registerUnits_6 (.setX ..) (by simp)
theorem Shape.dmaTospr (ctx : Ctx) (rq rm rsp : Reg) : Shape.Statement (.dmaTospr ctx rq rm rsp) := fun s t h => by
  simp only [exec, execDmaTospr] at h
  exact .of_dmaToSpad (show (0x7#4, 0x01#8) ∈ _ by decide) h
theorem Shape.dmaFromspr (ctx : Ctx) (rq rm rsp : Reg) : Shape.Statement (.dmaFromspr ctx rq rm rsp) := fun s t h => by
  simp only [exec, execDmaFromspr] at h
  exact .of_dmaFromSpad (show (0x7#4, 0x02#8) ∈ _ by decide) h
theorem Shape.dmaTosprIl (ctx : Ctx) (rq rm rsp : Reg) : Shape.Statement (.dmaTosprIl ctx rq rm rsp) := fun s t h => by
  simp only [exec, execDmaTosprIl] at h
  exact .of_dmaToSpad (show (0x7#4, 0x03#8) ∈ _ by decide) h
theorem Shape.dmaFromsprIl (ctx : Ctx) (rq rm rsp : Reg) : Shape.Statement (.dmaFromsprIl ctx rq rm rsp) := fun s t h => by
  simp only [exec, execDmaFromsprIl] at h
  exact .of_dmaFromSpad (show (0x7#4, 0x04#8) ∈ _ by decide) h
theorem Shape.ncall (ctx : Ctx) (rs : Reg) : Shape.Statement (.ncall ctx rs) := fun s t h => by
  simp only [exec, execNcall] at h
  exact .of_ncall h

/-- Every command's next state has one of the shapes. -/
theorem exec_shape (i : Instr) (s t : State) (h : exec i s = .next t) : Shape i s t := by
  cases i with
  | nop ctx => exact Shape.nop ctx s t h
  | ctxinit ctx => exact Shape.ctxinit ctx s t h
  | vfcopy ctx sctx => exact Shape.vfcopy ctx sctx s t h
  | mfc1 ctx rd rs => exact Shape.mfc1 ctx rd rs s t h
  | mtc1 ctx rd rs => exact Shape.mtc1 ctx rd rs s t h
  | qmfc2 ctx rd rs => exact Shape.qmfc2 ctx rd rs s t h
  | qmtc2 ctx rd rs => exact Shape.qmtc2 ctx rd rs s t h
  | addu ctx rd rs rt => exact Shape.addu ctx rd rs rt s t h
  | subu ctx rd rs rt => exact Shape.subu ctx rd rs rt s t h
  | daddu ctx rd rs rt => exact Shape.daddu ctx rd rs rt s t h
  | dsubu ctx rd rs rt => exact Shape.dsubu ctx rd rs rt s t h
  | addiu ctx rt rs imm => exact Shape.addiu ctx rt rs imm s t h
  | daddiu ctx rt rs imm => exact Shape.daddiu ctx rt rs imm s t h
  | and ctx rd rs rt => exact Shape.and ctx rd rs rt s t h
  | or ctx rd rs rt => exact Shape.or ctx rd rs rt s t h
  | xor ctx rd rs rt => exact Shape.xor ctx rd rs rt s t h
  | nor ctx rd rs rt => exact Shape.nor ctx rd rs rt s t h
  | andi ctx rt rs imm => exact Shape.andi ctx rt rs imm s t h
  | ori ctx rt rs imm => exact Shape.ori ctx rt rs imm s t h
  | xori ctx rt rs imm => exact Shape.xori ctx rt rs imm s t h
  | lui ctx rt imm => exact Shape.lui ctx rt imm s t h
  | sll ctx rd rt sa => exact Shape.sll ctx rd rt sa s t h
  | srl ctx rd rt sa => exact Shape.srl ctx rd rt sa s t h
  | sra ctx rd rt sa => exact Shape.sra ctx rd rt sa s t h
  | sllv ctx rd rs rt => exact Shape.sllv ctx rd rs rt s t h
  | srlv ctx rd rs rt => exact Shape.srlv ctx rd rs rt s t h
  | srav ctx rd rs rt => exact Shape.srav ctx rd rs rt s t h
  | dsll ctx rd rt sa => exact Shape.dsll ctx rd rt sa s t h
  | dsrl ctx rd rt sa => exact Shape.dsrl ctx rd rt sa s t h
  | dsra ctx rd rt sa => exact Shape.dsra ctx rd rt sa s t h
  | dsllv ctx rd rs rt => exact Shape.dsllv ctx rd rs rt s t h
  | dsrlv ctx rd rs rt => exact Shape.dsrlv ctx rd rs rt s t h
  | dsrav ctx rd rs rt => exact Shape.dsrav ctx rd rs rt s t h
  | slt ctx rd rs rt => exact Shape.slt ctx rd rs rt s t h
  | sltu ctx rd rs rt => exact Shape.sltu ctx rd rs rt s t h
  | slti ctx rt rs imm => exact Shape.slti ctx rt rs imm s t h
  | sltiu ctx rt rs imm => exact Shape.sltiu ctx rt rs imm s t h
  | movn ctx rd rs rt => exact Shape.movn ctx rd rs rt s t h
  | movz ctx rd rs rt => exact Shape.movz ctx rd rs rt s t h
  | lb ctx rt base off => exact Shape.lb ctx rt base off s t h
  | lbu ctx rt base off => exact Shape.lbu ctx rt base off s t h
  | lh ctx rt base off => exact Shape.lh ctx rt base off s t h
  | lhu ctx rt base off => exact Shape.lhu ctx rt base off s t h
  | lw ctx rt base off => exact Shape.lw ctx rt base off s t h
  | ld ctx rt base off => exact Shape.ld ctx rt base off s t h
  | lq ctx rt base off => exact Shape.lq ctx rt base off s t h
  | lwl ctx rt base off => exact Shape.lwl ctx rt base off s t h
  | lwr ctx rt base off => exact Shape.lwr ctx rt base off s t h
  | ldl ctx rt base off => exact Shape.ldl ctx rt base off s t h
  | ldr ctx rt base off => exact Shape.ldr ctx rt base off s t h
  | sb ctx rt base off => exact Shape.sb ctx rt base off s t h
  | sh ctx rt base off => exact Shape.sh ctx rt base off s t h
  | sw ctx rt base off => exact Shape.sw ctx rt base off s t h
  | sd ctx rt base off => exact Shape.sd ctx rt base off s t h
  | sq ctx rt base off => exact Shape.sq ctx rt base off s t h
  | lwc1 ctx rt base off => exact Shape.lwc1 ctx rt base off s t h
  | swc1 ctx rt base off => exact Shape.swc1 ctx rt base off s t h
  | lqc2 ctx rt base off => exact Shape.lqc2 ctx rt base off s t h
  | sqc2 ctx rt base off => exact Shape.sqc2 ctx rt base off s t h
  | mult ctx rd rs rt => exact Shape.mult ctx rd rs rt s t h
  | multu ctx rd rs rt => exact Shape.multu ctx rd rs rt s t h
  | div ctx rs rt => exact Shape.div ctx rs rt s t h
  | divu ctx rs rt => exact Shape.divu ctx rs rt s t h
  | mfhi ctx rd => exact Shape.mfhi ctx rd s t h
  | mflo ctx rd => exact Shape.mflo ctx rd s t h
  | mthi ctx rs => exact Shape.mthi ctx rs s t h
  | mtlo ctx rs => exact Shape.mtlo ctx rs s t h
  | pmfhi ctx rd => exact Shape.pmfhi ctx rd s t h
  | pmflo ctx rd => exact Shape.pmflo ctx rd s t h
  | pmthi ctx rs => exact Shape.pmthi ctx rs s t h
  | pmtlo ctx rs => exact Shape.pmtlo ctx rs s t h
  | pmulth ctx rd rs rt => exact Shape.pmulth ctx rd rs rt s t h
  | pmaddh ctx rd rs rt => exact Shape.pmaddh ctx rd rs rt s t h
  | vadd ctx fd fs ft dest => exact Shape.vadd ctx fd fs ft dest s t h
  | vaddBc ctx fd fs ft dest bc => exact Shape.vaddBc ctx fd fs ft dest bc s t h
  | vsub ctx fd fs ft dest => exact Shape.vsub ctx fd fs ft dest s t h
  | vsubBc ctx fd fs ft dest bc => exact Shape.vsubBc ctx fd fs ft dest bc s t h
  | vmul ctx fd fs ft dest => exact Shape.vmul ctx fd fs ft dest s t h
  | vmulBc ctx fd fs ft dest bc => exact Shape.vmulBc ctx fd fs ft dest bc s t h
  | vmula ctx fs ft dest => exact Shape.vmula ctx fs ft dest s t h
  | vmulaBc ctx fs ft dest bc => exact Shape.vmulaBc ctx fs ft dest bc s t h
  | vmadda ctx fs ft dest => exact Shape.vmadda ctx fs ft dest s t h
  | vmaddaBc ctx fs ft dest bc => exact Shape.vmaddaBc ctx fs ft dest bc s t h
  | vmsuba ctx fs ft dest => exact Shape.vmsuba ctx fs ft dest s t h
  | vmsubaBc ctx fs ft dest bc => exact Shape.vmsubaBc ctx fs ft dest bc s t h
  | vmadd ctx fd fs ft dest => exact Shape.vmadd ctx fd fs ft dest s t h
  | vmaddBc ctx fd fs ft dest bc => exact Shape.vmaddBc ctx fd fs ft dest bc s t h
  | vmsub ctx fd fs ft dest => exact Shape.vmsub ctx fd fs ft dest s t h
  | vmsubBc ctx fd fs ft dest bc => exact Shape.vmsubBc ctx fd fs ft dest bc s t h
  | vaddq ctx fd fs dest => exact Shape.vaddq ctx fd fs dest s t h
  | vsubq ctx fd fs dest => exact Shape.vsubq ctx fd fs dest s t h
  | vmulq ctx fd fs dest => exact Shape.vmulq ctx fd fs dest s t h
  | vaddi ctx fd fs dest => exact Shape.vaddi ctx fd fs dest s t h
  | vsubi ctx fd fs dest => exact Shape.vsubi ctx fd fs dest s t h
  | vmuli ctx fd fs dest => exact Shape.vmuli ctx fd fs dest s t h
  | vdiv ctx fs ft fsf ftf => exact Shape.vdiv ctx fs ft fsf ftf s t h
  | vsqrt ctx ft ftf => exact Shape.vsqrt ctx ft ftf s t h
  | vrsqrt ctx fs ft fsf ftf => exact Shape.vrsqrt ctx fs ft fsf ftf s t h
  | vrget ctx fd dest => exact Shape.vrget ctx fd dest s t h
  | vrnext ctx fd dest => exact Shape.vrnext ctx fd dest s t h
  | vrxor ctx fs fsf => exact Shape.vrxor ctx fs fsf s t h
  | vitof0 ctx fd fs dest => exact Shape.vitof0 ctx fd fs dest s t h
  | vitof12 ctx fd fs dest => exact Shape.vitof12 ctx fd fs dest s t h
  | vitof15 ctx fd fs dest => exact Shape.vitof15 ctx fd fs dest s t h
  | vftoi0 ctx fd fs dest => exact Shape.vftoi0 ctx fd fs dest s t h
  | vftoi4 ctx fd fs dest => exact Shape.vftoi4 ctx fd fs dest s t h
  | vftoi12 ctx fd fs dest => exact Shape.vftoi12 ctx fd fs dest s t h
  | pextlb ctx rd rs rt => exact Shape.pextlb ctx rd rs rt s t h
  | pextlh ctx rd rs rt => exact Shape.pextlh ctx rd rs rt s t h
  | pextlw ctx rd rs rt => exact Shape.pextlw ctx rd rs rt s t h
  | pextub ctx rd rs rt => exact Shape.pextub ctx rd rs rt s t h
  | pextuh ctx rd rs rt => exact Shape.pextuh ctx rd rs rt s t h
  | pextuw ctx rd rs rt => exact Shape.pextuw ctx rd rs rt s t h
  | ppacb ctx rd rs rt => exact Shape.ppacb ctx rd rs rt s t h
  | ppach ctx rd rs rt => exact Shape.ppach ctx rd rs rt s t h
  | ppacw ctx rd rs rt => exact Shape.ppacw ctx rd rs rt s t h
  | paddb ctx rd rs rt => exact Shape.paddb ctx rd rs rt s t h
  | paddh ctx rd rs rt => exact Shape.paddh ctx rd rs rt s t h
  | paddw ctx rd rs rt => exact Shape.paddw ctx rd rs rt s t h
  | psubb ctx rd rs rt => exact Shape.psubb ctx rd rs rt s t h
  | psubh ctx rd rs rt => exact Shape.psubh ctx rd rs rt s t h
  | psubw ctx rd rs rt => exact Shape.psubw ctx rd rs rt s t h
  | pceqb ctx rd rs rt => exact Shape.pceqb ctx rd rs rt s t h
  | pceqh ctx rd rs rt => exact Shape.pceqh ctx rd rs rt s t h
  | pceqw ctx rd rs rt => exact Shape.pceqw ctx rd rs rt s t h
  | pcgtb ctx rd rs rt => exact Shape.pcgtb ctx rd rs rt s t h
  | pcgth ctx rd rs rt => exact Shape.pcgth ctx rd rs rt s t h
  | pcgtw ctx rd rs rt => exact Shape.pcgtw ctx rd rs rt s t h
  | pmaxh ctx rd rs rt => exact Shape.pmaxh ctx rd rs rt s t h
  | pmaxw ctx rd rs rt => exact Shape.pmaxw ctx rd rs rt s t h
  | pminh ctx rd rs rt => exact Shape.pminh ctx rd rs rt s t h
  | pminw ctx rd rs rt => exact Shape.pminw ctx rd rs rt s t h
  | psllh ctx rd rt sa => exact Shape.psllh ctx rd rt sa s t h
  | psrlh ctx rd rt sa => exact Shape.psrlh ctx rd rt sa s t h
  | psrah ctx rd rt sa => exact Shape.psrah ctx rd rt sa s t h
  | psllw ctx rd rt sa => exact Shape.psllw ctx rd rt sa s t h
  | psrlw ctx rd rt sa => exact Shape.psrlw ctx rd rt sa s t h
  | psraw ctx rd rt sa => exact Shape.psraw ctx rd rt sa s t h
  | plzcw ctx rd rs => exact Shape.plzcw ctx rd rs s t h
  | dmaTospr ctx rq rm rsp => exact Shape.dmaTospr ctx rq rm rsp s t h
  | dmaFromspr ctx rq rm rsp => exact Shape.dmaFromspr ctx rq rm rsp s t h
  | dmaTosprIl ctx rq rm rsp => exact Shape.dmaTosprIl ctx rq rm rsp s t h
  | dmaFromsprIl ctx rq rm rsp => exact Shape.dmaFromsprIl ctx rq rm rsp s t h
  | ncall ctx rs => exact Shape.ncall ctx rs s t h

end Sys2Proof.Machine
end

