-- ==== Sys2Proof/Laws/Float.lean ====
section
/-! SUPPORT. Binary32 patterns and the values they stand for (00_scope.md R14). -/

namespace Sys2Proof.Machine

/-- The value of magnitude bits below infinity, in units of 2^-149. -/
def floatMag (bits : Nat) : Nat := if bits / 2 ^ 23 = 0 then bits else (2 ^ 23 + bits % 2 ^ 23) * 2 ^ (bits / 2 ^ 23 - 1)

theorem floatPattern_toNat (neg : Bool) {bits : Nat} (h : bits < 2 ^ 31) :
    (floatPattern neg bits).toNat = if neg then 2 ^ 31 + bits else bits := by
  rw [floatPattern, BitVec.toNat_ofNat]
  cases neg <;> simp <;> omega

theorem msb_floatPattern (neg : Bool) {bits : Nat} (h : bits < 2 ^ 31) : (floatPattern neg bits).msb = neg := by
  rw [BitVec.msb_eq_decide, floatPattern_toNat neg h]
  cases neg <;> simp <;> omega

/-- Every pattern by its sign and magnitude bits. -/
theorem floatPattern_self (a : Word) : floatPattern a.msb (a.toNat % 2 ^ 31) = a := by
  apply BitVec.eq_of_toNat_eq
  have := a.isLt
  rw [floatPattern_toNat _ (Nat.mod_lt _ (by decide)), BitVec.msb_eq_decide]
  by_cases h : 2 ^ 31 ≤ a.toNat
  · simp only [show 2 ^ (32 - 1) ≤ a.toNat from h, decide_true, if_true]; omega
  · simp only [show ¬2 ^ (32 - 1) ≤ a.toNat from h, decide_false, Bool.false_eq_true, if_false]; omega

/-- What a pattern stands for, by its magnitude bits. -/
theorem floatView_eq (a : Word) :
    floatView a =
      if a.toNat % 2 ^ 31 < 0x7F800000 then .fin a.msb (floatMag (a.toNat % 2 ^ 31))
      else if a.toNat % 2 ^ 31 = 0x7F800000 then .inf a.msb else .nan := by
  have he : (a.extractLsb' 23 8).toNat = a.toNat % 2 ^ 31 / 2 ^ 23 := by
    rw [BitVec.extractLsb'_toNat, Nat.shiftRight_eq_div_pow]; omega
  have hm : (a.extractLsb' 0 23).toNat = a.toNat % 2 ^ 31 % 2 ^ 23 := by
    rw [BitVec.extractLsb'_toNat, Nat.shiftRight_zero]; omega
  unfold floatView
  dsimp only
  rw [he, hm]
  have hb : a.toNat % 2 ^ 31 < 2 ^ 31 := Nat.mod_lt _ (by decide)
  generalize a.toNat % 2 ^ 31 = b at *
  by_cases h1 : b < 0x7F800000
  · rw [if_neg (by omega), if_pos h1, floatMag]
    congr 1
    by_cases h0 : b / 2 ^ 23 = 0
    · rw [if_pos h0, if_pos h0]; omega
    · rw [if_neg h0, if_neg h0]
  · rw [if_pos (by omega), if_neg h1]
    by_cases h2 : b = 0x7F800000
    · rw [if_pos (by omega), if_pos h2]
    · rw [if_neg (by omega), if_neg h2]

/-- A finite pattern's value is its signed magnitude, and it has no other. -/
theorem floatValue_iff (a : Word) (v : Int) :
    FloatValue a v ↔ a.toNat % 2 ^ 31 < 0x7F800000 ∧ v = signedMag a.msb (floatMag (a.toNat % 2 ^ 31)) := by
  unfold FloatValue
  rw [floatView_eq]
  constructor
  · rintro ⟨neg, mag, h, rfl⟩
    split at h
    · next hb => cases h; exact ⟨hb, rfl⟩
    · split at h <;> cases h
  · rintro ⟨hb, rfl⟩
    exact ⟨_, _, if_pos hb, rfl⟩

/-- The value of d places dropped and significand m, as `roundFloat` puts them together. -/
theorem floatMag_places {d m : Nat} (hm : m ≤ 2 ^ 24) (hd : d = 0 ∨ 2 ^ 23 ≤ m) : floatMag (d * 2 ^ 23 + m) = m * 2 ^ d := by
  unfold floatMag
  by_cases h1 : m < 2 ^ 23
  · have : d = 0 := hd.resolve_right (by omega)
    subst this
    rw [if_pos (by omega)]; omega
  · by_cases h2 : m = 2 ^ 24
    · subst h2
      have e : (d * 2 ^ 23 + 2 ^ 24) / 2 ^ 23 = d + 2 := by omega
      have r : (d * 2 ^ 23 + 2 ^ 24) % 2 ^ 23 = 0 := by omega
      rw [e, r, if_neg (by omega), Nat.add_zero, show d + 2 - 1 = d + 1 from rfl, pow_succ]
      ring
    · have e : (d * 2 ^ 23 + m) / 2 ^ 23 = d + 1 := by omega
      have r : 2 ^ 23 + (d * 2 ^ 23 + m) % 2 ^ 23 = m := by omega
      rw [e, r, if_neg (by omega), Nat.add_sub_cancel]

/-- Every value is a multiple of 2^d or lies below 2^(23 + d): between neighbours there is nothing. -/
theorem floatMag_gap (bits d : Nat) : 2 ^ d ∣ floatMag bits ∨ floatMag bits < 2 ^ (23 + d) := by
  unfold floatMag
  split
  · right
    have : 2 ^ 23 ≤ 2 ^ (23 + d) := Nat.pow_le_pow_right (by decide) (by omega)
    omega
  · next h =>
    by_cases hd : d ≤ bits / 2 ^ 23 - 1
    · exact .inl (Dvd.dvd.mul_left (Nat.pow_dvd_pow 2 hd) _)
    · right
      have h1 : 2 ^ 23 + bits % 2 ^ 23 < 2 ^ 24 := by omega
      calc (2 ^ 23 + bits % 2 ^ 23) * 2 ^ (bits / 2 ^ 23 - 1)
          < 2 ^ 24 * 2 ^ (bits / 2 ^ 23 - 1) := Nat.mul_lt_mul_of_pos_right h1 (by positivity)
        _ = 2 ^ (24 + (bits / 2 ^ 23 - 1)) := (pow_add ..).symm
        _ ≤ 2 ^ (23 + d) := Nat.pow_le_pow_right (by decide) (by omega)

/-- The rounded quotient is a nearest whole number, even where another is as near. -/
theorem roundNearestEven_nearest {num den : Nat} (h : 0 < den) (k : Int) :
    ((roundNearestEven num den : Int) * den - num).natAbs ≤ (k * den - num).natAbs ∧
    (((roundNearestEven num den : Int) * den - num).natAbs = (k * den - num).natAbs → k ≠ roundNearestEven num den →
      roundNearestEven num den % 2 = 0) := by
  have hdiv : (den : Int) * (num / den : Nat) + (num % den : Nat) = num := by exact_mod_cast Nat.div_add_mod num den
  have hr : num % den < den := Nat.mod_lt _ h
  unfold roundNearestEven
  dsimp only
  generalize num / den = q at *
  generalize num % den = r at *
  have key : ∀ j : Int, j * den - num = (j - q) * den - r := by intro j; rw [← hdiv]; ring
  have hk : k - q ≤ -1 ∨ k - q = 0 ∨ k - q = 1 ∨ 2 ≤ k - q := by omega
  have hden : (0 : Int) < den := by exact_mod_cast h
  split
  · next hup =>
    rw [key, key]
    push_cast
    rw [show (q : Int) + 1 - q = 1 by ring, one_mul]
    rcases hk with h1 | h1 | h1 | h1
    · have : (k - q) * den ≤ -1 * den := by gcongr
      refine ⟨by omega, fun he hne => by omega⟩
    · rw [h1, zero_mul]; refine ⟨by omega, fun he hne => by omega⟩
    · rw [h1, one_mul]; exact ⟨le_refl _, fun _ hne => absurd (by omega) hne⟩
    · have : 2 * (den : Int) ≤ (k - q) * den := by gcongr
      refine ⟨by omega, fun he hne => by omega⟩
  · next hdown =>
    rw [key, key]
    rw [show (q : Int) - q = 0 by ring, zero_mul]
    rcases hk with h1 | h1 | h1 | h1
    · have : (k - q) * den ≤ -1 * den := by gcongr
      refine ⟨by omega, fun he hne => by omega⟩
    · rw [h1, zero_mul]; exact ⟨le_refl _, fun _ hne => absurd (by omega) hne⟩
    · rw [h1, one_mul]; refine ⟨by omega, fun he hne => by omega⟩
    · have : 2 * (den : Int) ≤ (k - q) * den := by gcongr
      refine ⟨by omega, fun he hne => by omega⟩

end Sys2Proof.Machine
end

