-- ==== Sys2Proof/Laws/PerInstr.lean ====
section
/-! SUPPORT. Statements made for every command of `Instr`, one lemma for each constructor. -/

namespace Sys2Proof.Laws

theorem toFin_setWidth_ofFin4 (sa : Fin 16) : (((BitVec.ofFin (w := 4) sa).setWidth 6).setWidth 4).toFin = sa := by
  have h : ((BitVec.ofFin (w := 4) sa).setWidth 6).setWidth 4 = BitVec.ofFin sa := by
    rw [BitVec.setWidth_setWidth_of_le _ (by decide), BitVec.setWidth_eq]
  rw [h]

theorem toFin_setWidth_ofFin5 (sa : Fin 32) : (((BitVec.ofFin (w := 5) sa).setWidth 6).setWidth 5).toFin = sa := by
  have h : ((BitVec.ofFin (w := 5) sa).setWidth 6).setWidth 5 = BitVec.ofFin sa := by
    rw [BitVec.setWidth_setWidth_of_le _ (by decide), BitVec.setWidth_eq]
  rw [h]

theorem toFin_setWidth_ofCtx (c : Ctx) : (((BitVec.ofFin (w := 4) c).setWidth 5).setWidth 4).toFin = c := by
  have h : ((BitVec.ofFin (w := 4) c).setWidth 5).setWidth 4 = BitVec.ofFin c := by
    rw [BitVec.setWidth_setWidth_of_le _ (by decide), BitVec.setWidth_eq]
  rw [h]

/-- The decoder reads every field the encoder wrote (30_encoding.md R111, R112, R124). -/
def FieldsRoundTrip.Statement (i : Instr) : Prop := rowOf (Fields.ofInstr i) = some (i.format, i)

theorem FieldsRoundTrip.nop (ctx : Ctx) : FieldsRoundTrip.Statement (.nop ctx) := rfl
theorem FieldsRoundTrip.ctxinit (ctx : Ctx) : FieldsRoundTrip.Statement (.ctxinit ctx) := rfl
theorem FieldsRoundTrip.vfcopy (ctx sctx : Ctx) : FieldsRoundTrip.Statement (.vfcopy ctx sctx) :=
  congrArg (fun z => some (Format.C, Instr.vfcopy ctx z)) (toFin_setWidth_ofCtx sctx)
theorem FieldsRoundTrip.mfc1 (ctx : Ctx) (rd rs : Reg) : FieldsRoundTrip.Statement (.mfc1 ctx rd rs) := rfl
theorem FieldsRoundTrip.mtc1 (ctx : Ctx) (rd rs : Reg) : FieldsRoundTrip.Statement (.mtc1 ctx rd rs) := rfl
theorem FieldsRoundTrip.qmfc2 (ctx : Ctx) (rd rs : Reg) : FieldsRoundTrip.Statement (.qmfc2 ctx rd rs) := rfl
theorem FieldsRoundTrip.qmtc2 (ctx : Ctx) (rd rs : Reg) : FieldsRoundTrip.Statement (.qmtc2 ctx rd rs) := rfl
theorem FieldsRoundTrip.addu (ctx : Ctx) (rd rs rt : Reg) : FieldsRoundTrip.Statement (.addu ctx rd rs rt) := rfl
theorem FieldsRoundTrip.subu (ctx : Ctx) (rd rs rt : Reg) : FieldsRoundTrip.Statement (.subu ctx rd rs rt) := rfl
theorem FieldsRoundTrip.daddu (ctx : Ctx) (rd rs rt : Reg) : FieldsRoundTrip.Statement (.daddu ctx rd rs rt) := rfl
theorem FieldsRoundTrip.dsubu (ctx : Ctx) (rd rs rt : Reg) : FieldsRoundTrip.Statement (.dsubu ctx rd rs rt) := rfl
theorem FieldsRoundTrip.addiu (ctx : Ctx) (rt rs : Reg) (imm : BitVec 16) : FieldsRoundTrip.Statement (.addiu ctx rt rs imm) :=
  rfl
theorem FieldsRoundTrip.daddiu (ctx : Ctx) (rt rs : Reg) (imm : BitVec 16) : FieldsRoundTrip.Statement (.daddiu ctx rt rs imm) :=
  rfl
theorem FieldsRoundTrip.and (ctx : Ctx) (rd rs rt : Reg) : FieldsRoundTrip.Statement (.and ctx rd rs rt) := rfl
theorem FieldsRoundTrip.or (ctx : Ctx) (rd rs rt : Reg) : FieldsRoundTrip.Statement (.or ctx rd rs rt) := rfl
theorem FieldsRoundTrip.xor (ctx : Ctx) (rd rs rt : Reg) : FieldsRoundTrip.Statement (.xor ctx rd rs rt) := rfl
theorem FieldsRoundTrip.nor (ctx : Ctx) (rd rs rt : Reg) : FieldsRoundTrip.Statement (.nor ctx rd rs rt) := rfl
theorem FieldsRoundTrip.andi (ctx : Ctx) (rt rs : Reg) (imm : BitVec 16) : FieldsRoundTrip.Statement (.andi ctx rt rs imm) :=
  rfl
theorem FieldsRoundTrip.ori (ctx : Ctx) (rt rs : Reg) (imm : BitVec 16) : FieldsRoundTrip.Statement (.ori ctx rt rs imm) :=
  rfl
theorem FieldsRoundTrip.xori (ctx : Ctx) (rt rs : Reg) (imm : BitVec 16) : FieldsRoundTrip.Statement (.xori ctx rt rs imm) :=
  rfl
theorem FieldsRoundTrip.lui (ctx : Ctx) (rt : Reg) (imm : BitVec 16) : FieldsRoundTrip.Statement (.lui ctx rt imm) :=
  rfl
theorem FieldsRoundTrip.sll (ctx : Ctx) (rd rt : Reg) (sa : Fin 32) : FieldsRoundTrip.Statement (.sll ctx rd rt sa) :=
  congrArg (fun z => some (Format.SH5, Instr.sll ctx rd rt z)) (toFin_setWidth_ofFin5 sa)
theorem FieldsRoundTrip.srl (ctx : Ctx) (rd rt : Reg) (sa : Fin 32) : FieldsRoundTrip.Statement (.srl ctx rd rt sa) :=
  congrArg (fun z => some (Format.SH5, Instr.srl ctx rd rt z)) (toFin_setWidth_ofFin5 sa)
theorem FieldsRoundTrip.sra (ctx : Ctx) (rd rt : Reg) (sa : Fin 32) : FieldsRoundTrip.Statement (.sra ctx rd rt sa) :=
  congrArg (fun z => some (Format.SH5, Instr.sra ctx rd rt z)) (toFin_setWidth_ofFin5 sa)
theorem FieldsRoundTrip.sllv (ctx : Ctx) (rd rs rt : Reg) : FieldsRoundTrip.Statement (.sllv ctx rd rs rt) := rfl
theorem FieldsRoundTrip.srlv (ctx : Ctx) (rd rs rt : Reg) : FieldsRoundTrip.Statement (.srlv ctx rd rs rt) := rfl
theorem FieldsRoundTrip.srav (ctx : Ctx) (rd rs rt : Reg) : FieldsRoundTrip.Statement (.srav ctx rd rs rt) := rfl
theorem FieldsRoundTrip.dsll (ctx : Ctx) (rd rt : Reg) (sa : Fin 64) : FieldsRoundTrip.Statement (.dsll ctx rd rt sa) :=
  rfl
theorem FieldsRoundTrip.dsrl (ctx : Ctx) (rd rt : Reg) (sa : Fin 64) : FieldsRoundTrip.Statement (.dsrl ctx rd rt sa) :=
  rfl
theorem FieldsRoundTrip.dsra (ctx : Ctx) (rd rt : Reg) (sa : Fin 64) : FieldsRoundTrip.Statement (.dsra ctx rd rt sa) :=
  rfl
theorem FieldsRoundTrip.dsllv (ctx : Ctx) (rd rs rt : Reg) : FieldsRoundTrip.Statement (.dsllv ctx rd rs rt) := rfl
theorem FieldsRoundTrip.dsrlv (ctx : Ctx) (rd rs rt : Reg) : FieldsRoundTrip.Statement (.dsrlv ctx rd rs rt) := rfl
theorem FieldsRoundTrip.dsrav (ctx : Ctx) (rd rs rt : Reg) : FieldsRoundTrip.Statement (.dsrav ctx rd rs rt) := rfl
theorem FieldsRoundTrip.slt (ctx : Ctx) (rd rs rt : Reg) : FieldsRoundTrip.Statement (.slt ctx rd rs rt) := rfl
theorem FieldsRoundTrip.sltu (ctx : Ctx) (rd rs rt : Reg) : FieldsRoundTrip.Statement (.sltu ctx rd rs rt) := rfl
theorem FieldsRoundTrip.slti (ctx : Ctx) (rt rs : Reg) (imm : BitVec 16) : FieldsRoundTrip.Statement (.slti ctx rt rs imm) :=
  rfl
theorem FieldsRoundTrip.sltiu (ctx : Ctx) (rt rs : Reg) (imm : BitVec 16) : FieldsRoundTrip.Statement (.sltiu ctx rt rs imm) :=
  rfl
theorem FieldsRoundTrip.movn (ctx : Ctx) (rd rs rt : Reg) : FieldsRoundTrip.Statement (.movn ctx rd rs rt) := rfl
theorem FieldsRoundTrip.movz (ctx : Ctx) (rd rs rt : Reg) : FieldsRoundTrip.Statement (.movz ctx rd rs rt) := rfl
theorem FieldsRoundTrip.lb (ctx : Ctx) (rt base : Reg) (off : BitVec 16) : FieldsRoundTrip.Statement (.lb ctx rt base off) :=
  rfl
theorem FieldsRoundTrip.lbu (ctx : Ctx) (rt base : Reg) (off : BitVec 16) : FieldsRoundTrip.Statement (.lbu ctx rt base off) :=
  rfl
theorem FieldsRoundTrip.lh (ctx : Ctx) (rt base : Reg) (off : BitVec 16) : FieldsRoundTrip.Statement (.lh ctx rt base off) :=
  rfl
theorem FieldsRoundTrip.lhu (ctx : Ctx) (rt base : Reg) (off : BitVec 16) : FieldsRoundTrip.Statement (.lhu ctx rt base off) :=
  rfl
theorem FieldsRoundTrip.lw (ctx : Ctx) (rt base : Reg) (off : BitVec 16) : FieldsRoundTrip.Statement (.lw ctx rt base off) :=
  rfl
theorem FieldsRoundTrip.ld (ctx : Ctx) (rt base : Reg) (off : BitVec 16) : FieldsRoundTrip.Statement (.ld ctx rt base off) :=
  rfl
theorem FieldsRoundTrip.lq (ctx : Ctx) (rt base : Reg) (off : BitVec 16) : FieldsRoundTrip.Statement (.lq ctx rt base off) :=
  rfl
theorem FieldsRoundTrip.lwl (ctx : Ctx) (rt base : Reg) (off : BitVec 16) : FieldsRoundTrip.Statement (.lwl ctx rt base off) :=
  rfl
theorem FieldsRoundTrip.lwr (ctx : Ctx) (rt base : Reg) (off : BitVec 16) : FieldsRoundTrip.Statement (.lwr ctx rt base off) :=
  rfl
theorem FieldsRoundTrip.ldl (ctx : Ctx) (rt base : Reg) (off : BitVec 16) : FieldsRoundTrip.Statement (.ldl ctx rt base off) :=
  rfl
theorem FieldsRoundTrip.ldr (ctx : Ctx) (rt base : Reg) (off : BitVec 16) : FieldsRoundTrip.Statement (.ldr ctx rt base off) :=
  rfl
theorem FieldsRoundTrip.sb (ctx : Ctx) (rt base : Reg) (off : BitVec 16) : FieldsRoundTrip.Statement (.sb ctx rt base off) :=
  rfl
theorem FieldsRoundTrip.sh (ctx : Ctx) (rt base : Reg) (off : BitVec 16) : FieldsRoundTrip.Statement (.sh ctx rt base off) :=
  rfl
theorem FieldsRoundTrip.sw (ctx : Ctx) (rt base : Reg) (off : BitVec 16) : FieldsRoundTrip.Statement (.sw ctx rt base off) :=
  rfl
theorem FieldsRoundTrip.sd (ctx : Ctx) (rt base : Reg) (off : BitVec 16) : FieldsRoundTrip.Statement (.sd ctx rt base off) :=
  rfl
theorem FieldsRoundTrip.sq (ctx : Ctx) (rt base : Reg) (off : BitVec 16) : FieldsRoundTrip.Statement (.sq ctx rt base off) :=
  rfl
theorem FieldsRoundTrip.lwc1 (ctx : Ctx) (rt base : Reg) (off : BitVec 16) : FieldsRoundTrip.Statement (.lwc1 ctx rt base off) :=
  rfl
theorem FieldsRoundTrip.swc1 (ctx : Ctx) (rt base : Reg) (off : BitVec 16) : FieldsRoundTrip.Statement (.swc1 ctx rt base off) :=
  rfl
theorem FieldsRoundTrip.lqc2 (ctx : Ctx) (rt base : Reg) (off : BitVec 16) : FieldsRoundTrip.Statement (.lqc2 ctx rt base off) :=
  rfl
theorem FieldsRoundTrip.sqc2 (ctx : Ctx) (rt base : Reg) (off : BitVec 16) : FieldsRoundTrip.Statement (.sqc2 ctx rt base off) :=
  rfl
theorem FieldsRoundTrip.mult (ctx : Ctx) (rd rs rt : Reg) : FieldsRoundTrip.Statement (.mult ctx rd rs rt) := rfl
theorem FieldsRoundTrip.multu (ctx : Ctx) (rd rs rt : Reg) : FieldsRoundTrip.Statement (.multu ctx rd rs rt) := rfl
theorem FieldsRoundTrip.div (ctx : Ctx) (rs rt : Reg) : FieldsRoundTrip.Statement (.div ctx rs rt) := rfl
theorem FieldsRoundTrip.divu (ctx : Ctx) (rs rt : Reg) : FieldsRoundTrip.Statement (.divu ctx rs rt) := rfl
theorem FieldsRoundTrip.mfhi (ctx : Ctx) (rd : Reg) : FieldsRoundTrip.Statement (.mfhi ctx rd) := rfl
theorem FieldsRoundTrip.mflo (ctx : Ctx) (rd : Reg) : FieldsRoundTrip.Statement (.mflo ctx rd) := rfl
theorem FieldsRoundTrip.mthi (ctx : Ctx) (rs : Reg) : FieldsRoundTrip.Statement (.mthi ctx rs) := rfl
theorem FieldsRoundTrip.mtlo (ctx : Ctx) (rs : Reg) : FieldsRoundTrip.Statement (.mtlo ctx rs) := rfl
theorem FieldsRoundTrip.pmfhi (ctx : Ctx) (rd : Reg) : FieldsRoundTrip.Statement (.pmfhi ctx rd) := rfl
theorem FieldsRoundTrip.pmflo (ctx : Ctx) (rd : Reg) : FieldsRoundTrip.Statement (.pmflo ctx rd) := rfl
theorem FieldsRoundTrip.pmthi (ctx : Ctx) (rs : Reg) : FieldsRoundTrip.Statement (.pmthi ctx rs) := rfl
theorem FieldsRoundTrip.pmtlo (ctx : Ctx) (rs : Reg) : FieldsRoundTrip.Statement (.pmtlo ctx rs) := rfl
theorem FieldsRoundTrip.pmulth (ctx : Ctx) (rd rs rt : Reg) : FieldsRoundTrip.Statement (.pmulth ctx rd rs rt) := rfl
theorem FieldsRoundTrip.pmaddh (ctx : Ctx) (rd rs rt : Reg) : FieldsRoundTrip.Statement (.pmaddh ctx rd rs rt) := rfl
theorem FieldsRoundTrip.vadd (ctx : Ctx) (fd fs ft : Reg) (dest : Mask) : FieldsRoundTrip.Statement (.vadd ctx fd fs ft dest) :=
  rfl
theorem FieldsRoundTrip.vaddBc (ctx : Ctx) (fd fs ft : Reg) (dest : Mask) (bc : Lane) : FieldsRoundTrip.Statement (.vaddBc ctx fd fs ft dest bc) :=
  rfl
theorem FieldsRoundTrip.vsub (ctx : Ctx) (fd fs ft : Reg) (dest : Mask) : FieldsRoundTrip.Statement (.vsub ctx fd fs ft dest) :=
  rfl
theorem FieldsRoundTrip.vsubBc (ctx : Ctx) (fd fs ft : Reg) (dest : Mask) (bc : Lane) : FieldsRoundTrip.Statement (.vsubBc ctx fd fs ft dest bc) :=
  rfl
theorem FieldsRoundTrip.vmul (ctx : Ctx) (fd fs ft : Reg) (dest : Mask) : FieldsRoundTrip.Statement (.vmul ctx fd fs ft dest) :=
  rfl
theorem FieldsRoundTrip.vmulBc (ctx : Ctx) (fd fs ft : Reg) (dest : Mask) (bc : Lane) : FieldsRoundTrip.Statement (.vmulBc ctx fd fs ft dest bc) :=
  rfl
theorem FieldsRoundTrip.vmula (ctx : Ctx) (fs ft : Reg) (dest : Mask) : FieldsRoundTrip.Statement (.vmula ctx fs ft dest) :=
  rfl
theorem FieldsRoundTrip.vmulaBc (ctx : Ctx) (fs ft : Reg) (dest : Mask) (bc : Lane) : FieldsRoundTrip.Statement (.vmulaBc ctx fs ft dest bc) :=
  rfl
theorem FieldsRoundTrip.vmadda (ctx : Ctx) (fs ft : Reg) (dest : Mask) : FieldsRoundTrip.Statement (.vmadda ctx fs ft dest) :=
  rfl
theorem FieldsRoundTrip.vmaddaBc (ctx : Ctx) (fs ft : Reg) (dest : Mask) (bc : Lane) : FieldsRoundTrip.Statement (.vmaddaBc ctx fs ft dest bc) :=
  rfl
theorem FieldsRoundTrip.vmsuba (ctx : Ctx) (fs ft : Reg) (dest : Mask) : FieldsRoundTrip.Statement (.vmsuba ctx fs ft dest) :=
  rfl
theorem FieldsRoundTrip.vmsubaBc (ctx : Ctx) (fs ft : Reg) (dest : Mask) (bc : Lane) : FieldsRoundTrip.Statement (.vmsubaBc ctx fs ft dest bc) :=
  rfl
theorem FieldsRoundTrip.vmadd (ctx : Ctx) (fd fs ft : Reg) (dest : Mask) : FieldsRoundTrip.Statement (.vmadd ctx fd fs ft dest) :=
  rfl
theorem FieldsRoundTrip.vmaddBc (ctx : Ctx) (fd fs ft : Reg) (dest : Mask) (bc : Lane) : FieldsRoundTrip.Statement (.vmaddBc ctx fd fs ft dest bc) :=
  rfl
theorem FieldsRoundTrip.vmsub (ctx : Ctx) (fd fs ft : Reg) (dest : Mask) : FieldsRoundTrip.Statement (.vmsub ctx fd fs ft dest) :=
  rfl
theorem FieldsRoundTrip.vmsubBc (ctx : Ctx) (fd fs ft : Reg) (dest : Mask) (bc : Lane) : FieldsRoundTrip.Statement (.vmsubBc ctx fd fs ft dest bc) :=
  rfl
theorem FieldsRoundTrip.vaddq (ctx : Ctx) (fd fs : Reg) (dest : Mask) : FieldsRoundTrip.Statement (.vaddq ctx fd fs dest) :=
  rfl
theorem FieldsRoundTrip.vsubq (ctx : Ctx) (fd fs : Reg) (dest : Mask) : FieldsRoundTrip.Statement (.vsubq ctx fd fs dest) :=
  rfl
theorem FieldsRoundTrip.vmulq (ctx : Ctx) (fd fs : Reg) (dest : Mask) : FieldsRoundTrip.Statement (.vmulq ctx fd fs dest) :=
  rfl
theorem FieldsRoundTrip.vaddi (ctx : Ctx) (fd fs : Reg) (dest : Mask) : FieldsRoundTrip.Statement (.vaddi ctx fd fs dest) :=
  rfl
theorem FieldsRoundTrip.vsubi (ctx : Ctx) (fd fs : Reg) (dest : Mask) : FieldsRoundTrip.Statement (.vsubi ctx fd fs dest) :=
  rfl
theorem FieldsRoundTrip.vmuli (ctx : Ctx) (fd fs : Reg) (dest : Mask) : FieldsRoundTrip.Statement (.vmuli ctx fd fs dest) :=
  rfl
theorem FieldsRoundTrip.vdiv (ctx : Ctx) (fs ft : Reg) (fsf ftf : Lane) : FieldsRoundTrip.Statement (.vdiv ctx fs ft fsf ftf) :=
  rfl
theorem FieldsRoundTrip.vsqrt (ctx : Ctx) (ft : Reg) (ftf : Lane) : FieldsRoundTrip.Statement (.vsqrt ctx ft ftf) :=
  rfl
theorem FieldsRoundTrip.vrsqrt (ctx : Ctx) (fs ft : Reg) (fsf ftf : Lane) : FieldsRoundTrip.Statement (.vrsqrt ctx fs ft fsf ftf) :=
  rfl
theorem FieldsRoundTrip.vrget (ctx : Ctx) (fd : Reg) (dest : Mask) : FieldsRoundTrip.Statement (.vrget ctx fd dest) :=
  rfl
theorem FieldsRoundTrip.vrnext (ctx : Ctx) (fd : Reg) (dest : Mask) : FieldsRoundTrip.Statement (.vrnext ctx fd dest) :=
  rfl
theorem FieldsRoundTrip.vrxor (ctx : Ctx) (fs : Reg) (fsf : Lane) : FieldsRoundTrip.Statement (.vrxor ctx fs fsf) :=
  rfl
theorem FieldsRoundTrip.vitof0 (ctx : Ctx) (fd fs : Reg) (dest : Mask) : FieldsRoundTrip.Statement (.vitof0 ctx fd fs dest) :=
  rfl
theorem FieldsRoundTrip.vitof12 (ctx : Ctx) (fd fs : Reg) (dest : Mask) : FieldsRoundTrip.Statement (.vitof12 ctx fd fs dest) :=
  rfl
theorem FieldsRoundTrip.vitof15 (ctx : Ctx) (fd fs : Reg) (dest : Mask) : FieldsRoundTrip.Statement (.vitof15 ctx fd fs dest) :=
  rfl
theorem FieldsRoundTrip.vftoi0 (ctx : Ctx) (fd fs : Reg) (dest : Mask) : FieldsRoundTrip.Statement (.vftoi0 ctx fd fs dest) :=
  rfl
theorem FieldsRoundTrip.vftoi4 (ctx : Ctx) (fd fs : Reg) (dest : Mask) : FieldsRoundTrip.Statement (.vftoi4 ctx fd fs dest) :=
  rfl
theorem FieldsRoundTrip.vftoi12 (ctx : Ctx) (fd fs : Reg) (dest : Mask) : FieldsRoundTrip.Statement (.vftoi12 ctx fd fs dest) :=
  rfl
theorem FieldsRoundTrip.pextlb (ctx : Ctx) (rd rs rt : Reg) : FieldsRoundTrip.Statement (.pextlb ctx rd rs rt) := rfl
theorem FieldsRoundTrip.pextlh (ctx : Ctx) (rd rs rt : Reg) : FieldsRoundTrip.Statement (.pextlh ctx rd rs rt) := rfl
theorem FieldsRoundTrip.pextlw (ctx : Ctx) (rd rs rt : Reg) : FieldsRoundTrip.Statement (.pextlw ctx rd rs rt) := rfl
theorem FieldsRoundTrip.pextub (ctx : Ctx) (rd rs rt : Reg) : FieldsRoundTrip.Statement (.pextub ctx rd rs rt) := rfl
theorem FieldsRoundTrip.pextuh (ctx : Ctx) (rd rs rt : Reg) : FieldsRoundTrip.Statement (.pextuh ctx rd rs rt) := rfl
theorem FieldsRoundTrip.pextuw (ctx : Ctx) (rd rs rt : Reg) : FieldsRoundTrip.Statement (.pextuw ctx rd rs rt) := rfl
theorem FieldsRoundTrip.ppacb (ctx : Ctx) (rd rs rt : Reg) : FieldsRoundTrip.Statement (.ppacb ctx rd rs rt) := rfl
theorem FieldsRoundTrip.ppach (ctx : Ctx) (rd rs rt : Reg) : FieldsRoundTrip.Statement (.ppach ctx rd rs rt) := rfl
theorem FieldsRoundTrip.ppacw (ctx : Ctx) (rd rs rt : Reg) : FieldsRoundTrip.Statement (.ppacw ctx rd rs rt) := rfl
theorem FieldsRoundTrip.paddb (ctx : Ctx) (rd rs rt : Reg) : FieldsRoundTrip.Statement (.paddb ctx rd rs rt) := rfl
theorem FieldsRoundTrip.paddh (ctx : Ctx) (rd rs rt : Reg) : FieldsRoundTrip.Statement (.paddh ctx rd rs rt) := rfl
theorem FieldsRoundTrip.paddw (ctx : Ctx) (rd rs rt : Reg) : FieldsRoundTrip.Statement (.paddw ctx rd rs rt) := rfl
theorem FieldsRoundTrip.psubb (ctx : Ctx) (rd rs rt : Reg) : FieldsRoundTrip.Statement (.psubb ctx rd rs rt) := rfl
theorem FieldsRoundTrip.psubh (ctx : Ctx) (rd rs rt : Reg) : FieldsRoundTrip.Statement (.psubh ctx rd rs rt) := rfl
theorem FieldsRoundTrip.psubw (ctx : Ctx) (rd rs rt : Reg) : FieldsRoundTrip.Statement (.psubw ctx rd rs rt) := rfl
theorem FieldsRoundTrip.pceqb (ctx : Ctx) (rd rs rt : Reg) : FieldsRoundTrip.Statement (.pceqb ctx rd rs rt) := rfl
theorem FieldsRoundTrip.pceqh (ctx : Ctx) (rd rs rt : Reg) : FieldsRoundTrip.Statement (.pceqh ctx rd rs rt) := rfl
theorem FieldsRoundTrip.pceqw (ctx : Ctx) (rd rs rt : Reg) : FieldsRoundTrip.Statement (.pceqw ctx rd rs rt) := rfl
theorem FieldsRoundTrip.pcgtb (ctx : Ctx) (rd rs rt : Reg) : FieldsRoundTrip.Statement (.pcgtb ctx rd rs rt) := rfl
theorem FieldsRoundTrip.pcgth (ctx : Ctx) (rd rs rt : Reg) : FieldsRoundTrip.Statement (.pcgth ctx rd rs rt) := rfl
theorem FieldsRoundTrip.pcgtw (ctx : Ctx) (rd rs rt : Reg) : FieldsRoundTrip.Statement (.pcgtw ctx rd rs rt) := rfl
theorem FieldsRoundTrip.pmaxh (ctx : Ctx) (rd rs rt : Reg) : FieldsRoundTrip.Statement (.pmaxh ctx rd rs rt) := rfl
theorem FieldsRoundTrip.pmaxw (ctx : Ctx) (rd rs rt : Reg) : FieldsRoundTrip.Statement (.pmaxw ctx rd rs rt) := rfl
theorem FieldsRoundTrip.pminh (ctx : Ctx) (rd rs rt : Reg) : FieldsRoundTrip.Statement (.pminh ctx rd rs rt) := rfl
theorem FieldsRoundTrip.pminw (ctx : Ctx) (rd rs rt : Reg) : FieldsRoundTrip.Statement (.pminw ctx rd rs rt) := rfl
theorem FieldsRoundTrip.psllh (ctx : Ctx) (rd rt : Reg) (sa : Fin 16) : FieldsRoundTrip.Statement (.psllh ctx rd rt sa) :=
  congrArg (fun z => some (Format.SH4, Instr.psllh ctx rd rt z)) (toFin_setWidth_ofFin4 sa)
theorem FieldsRoundTrip.psrlh (ctx : Ctx) (rd rt : Reg) (sa : Fin 16) : FieldsRoundTrip.Statement (.psrlh ctx rd rt sa) :=
  congrArg (fun z => some (Format.SH4, Instr.psrlh ctx rd rt z)) (toFin_setWidth_ofFin4 sa)
theorem FieldsRoundTrip.psrah (ctx : Ctx) (rd rt : Reg) (sa : Fin 16) : FieldsRoundTrip.Statement (.psrah ctx rd rt sa) :=
  congrArg (fun z => some (Format.SH4, Instr.psrah ctx rd rt z)) (toFin_setWidth_ofFin4 sa)
theorem FieldsRoundTrip.psllw (ctx : Ctx) (rd rt : Reg) (sa : Fin 32) : FieldsRoundTrip.Statement (.psllw ctx rd rt sa) :=
  congrArg (fun z => some (Format.SH5, Instr.psllw ctx rd rt z)) (toFin_setWidth_ofFin5 sa)
theorem FieldsRoundTrip.psrlw (ctx : Ctx) (rd rt : Reg) (sa : Fin 32) : FieldsRoundTrip.Statement (.psrlw ctx rd rt sa) :=
  congrArg (fun z => some (Format.SH5, Instr.psrlw ctx rd rt z)) (toFin_setWidth_ofFin5 sa)
theorem FieldsRoundTrip.psraw (ctx : Ctx) (rd rt : Reg) (sa : Fin 32) : FieldsRoundTrip.Statement (.psraw ctx rd rt sa) :=
  congrArg (fun z => some (Format.SH5, Instr.psraw ctx rd rt z)) (toFin_setWidth_ofFin5 sa)
theorem FieldsRoundTrip.plzcw (ctx : Ctx) (rd rs : Reg) : FieldsRoundTrip.Statement (.plzcw ctx rd rs) := rfl
theorem FieldsRoundTrip.dmaTospr (ctx : Ctx) (rq rm rsp : Reg) : FieldsRoundTrip.Statement (.dmaTospr ctx rq rm rsp) :=
  rfl
theorem FieldsRoundTrip.dmaFromspr (ctx : Ctx) (rq rm rsp : Reg) : FieldsRoundTrip.Statement (.dmaFromspr ctx rq rm rsp) :=
  rfl
theorem FieldsRoundTrip.dmaTosprIl (ctx : Ctx) (rq rm rsp : Reg) : FieldsRoundTrip.Statement (.dmaTosprIl ctx rq rm rsp) :=
  rfl
theorem FieldsRoundTrip.dmaFromsprIl (ctx : Ctx) (rq rm rsp : Reg) : FieldsRoundTrip.Statement (.dmaFromsprIl ctx rq rm rsp) :=
  rfl
theorem FieldsRoundTrip.ncall (ctx : Ctx) (rs : Reg) : FieldsRoundTrip.Statement (.ncall ctx rs) := rfl

/-- Every bit the command's format does not use is 0 in its word (30_encoding.md R117, R124). -/
def EncodeMasked.Statement (i : Instr) : Prop := encode i &&& i.format.mask = opcodeBits i.opcode.1 i.opcode.2

theorem EncodeMasked.nop (ctx : Ctx) : EncodeMasked.Statement (.nop ctx) := masked_Z ..
theorem EncodeMasked.ctxinit (ctx : Ctx) : EncodeMasked.Statement (.ctxinit ctx) := masked_Z ..
theorem EncodeMasked.vfcopy (ctx sctx : Ctx) : EncodeMasked.Statement (.vfcopy ctx sctx) := masked_C ..
theorem EncodeMasked.mfc1 (ctx : Ctx) (rd rs : Reg) : EncodeMasked.Statement (.mfc1 ctx rd rs) := masked_R2B ..
theorem EncodeMasked.mtc1 (ctx : Ctx) (rd rs : Reg) : EncodeMasked.Statement (.mtc1 ctx rd rs) := masked_R2B ..
theorem EncodeMasked.qmfc2 (ctx : Ctx) (rd rs : Reg) : EncodeMasked.Statement (.qmfc2 ctx rd rs) := masked_R2B ..
theorem EncodeMasked.qmtc2 (ctx : Ctx) (rd rs : Reg) : EncodeMasked.Statement (.qmtc2 ctx rd rs) := masked_R2B ..
theorem EncodeMasked.addu (ctx : Ctx) (rd rs rt : Reg) : EncodeMasked.Statement (.addu ctx rd rs rt) := masked_R3 ..
theorem EncodeMasked.subu (ctx : Ctx) (rd rs rt : Reg) : EncodeMasked.Statement (.subu ctx rd rs rt) := masked_R3 ..
theorem EncodeMasked.daddu (ctx : Ctx) (rd rs rt : Reg) : EncodeMasked.Statement (.daddu ctx rd rs rt) := masked_R3 ..
theorem EncodeMasked.dsubu (ctx : Ctx) (rd rs rt : Reg) : EncodeMasked.Statement (.dsubu ctx rd rs rt) := masked_R3 ..
theorem EncodeMasked.addiu (ctx : Ctx) (rt rs : Reg) (imm : BitVec 16) : EncodeMasked.Statement (.addiu ctx rt rs imm) :=
  masked_RI ..
theorem EncodeMasked.daddiu (ctx : Ctx) (rt rs : Reg) (imm : BitVec 16) : EncodeMasked.Statement (.daddiu ctx rt rs imm) :=
  masked_RI ..
theorem EncodeMasked.and (ctx : Ctx) (rd rs rt : Reg) : EncodeMasked.Statement (.and ctx rd rs rt) := masked_R3 ..
theorem EncodeMasked.or (ctx : Ctx) (rd rs rt : Reg) : EncodeMasked.Statement (.or ctx rd rs rt) := masked_R3 ..
theorem EncodeMasked.xor (ctx : Ctx) (rd rs rt : Reg) : EncodeMasked.Statement (.xor ctx rd rs rt) := masked_R3 ..
theorem EncodeMasked.nor (ctx : Ctx) (rd rs rt : Reg) : EncodeMasked.Statement (.nor ctx rd rs rt) := masked_R3 ..
theorem EncodeMasked.andi (ctx : Ctx) (rt rs : Reg) (imm : BitVec 16) : EncodeMasked.Statement (.andi ctx rt rs imm) :=
  masked_RI ..
theorem EncodeMasked.ori (ctx : Ctx) (rt rs : Reg) (imm : BitVec 16) : EncodeMasked.Statement (.ori ctx rt rs imm) :=
  masked_RI ..
theorem EncodeMasked.xori (ctx : Ctx) (rt rs : Reg) (imm : BitVec 16) : EncodeMasked.Statement (.xori ctx rt rs imm) :=
  masked_RI ..
theorem EncodeMasked.lui (ctx : Ctx) (rt : Reg) (imm : BitVec 16) : EncodeMasked.Statement (.lui ctx rt imm) :=
  masked_LI ..
theorem EncodeMasked.sll (ctx : Ctx) (rd rt : Reg) (sa : Fin 32) : EncodeMasked.Statement (.sll ctx rd rt sa) :=
  masked_SH5 ..
theorem EncodeMasked.srl (ctx : Ctx) (rd rt : Reg) (sa : Fin 32) : EncodeMasked.Statement (.srl ctx rd rt sa) :=
  masked_SH5 ..
theorem EncodeMasked.sra (ctx : Ctx) (rd rt : Reg) (sa : Fin 32) : EncodeMasked.Statement (.sra ctx rd rt sa) :=
  masked_SH5 ..
theorem EncodeMasked.sllv (ctx : Ctx) (rd rs rt : Reg) : EncodeMasked.Statement (.sllv ctx rd rs rt) := masked_R3 ..
theorem EncodeMasked.srlv (ctx : Ctx) (rd rs rt : Reg) : EncodeMasked.Statement (.srlv ctx rd rs rt) := masked_R3 ..
theorem EncodeMasked.srav (ctx : Ctx) (rd rs rt : Reg) : EncodeMasked.Statement (.srav ctx rd rs rt) := masked_R3 ..
theorem EncodeMasked.dsll (ctx : Ctx) (rd rt : Reg) (sa : Fin 64) : EncodeMasked.Statement (.dsll ctx rd rt sa) :=
  masked_SH6 ..
theorem EncodeMasked.dsrl (ctx : Ctx) (rd rt : Reg) (sa : Fin 64) : EncodeMasked.Statement (.dsrl ctx rd rt sa) :=
  masked_SH6 ..
theorem EncodeMasked.dsra (ctx : Ctx) (rd rt : Reg) (sa : Fin 64) : EncodeMasked.Statement (.dsra ctx rd rt sa) :=
  masked_SH6 ..
theorem EncodeMasked.dsllv (ctx : Ctx) (rd rs rt : Reg) : EncodeMasked.Statement (.dsllv ctx rd rs rt) := masked_R3 ..
theorem EncodeMasked.dsrlv (ctx : Ctx) (rd rs rt : Reg) : EncodeMasked.Statement (.dsrlv ctx rd rs rt) := masked_R3 ..
theorem EncodeMasked.dsrav (ctx : Ctx) (rd rs rt : Reg) : EncodeMasked.Statement (.dsrav ctx rd rs rt) := masked_R3 ..
theorem EncodeMasked.slt (ctx : Ctx) (rd rs rt : Reg) : EncodeMasked.Statement (.slt ctx rd rs rt) := masked_R3 ..
theorem EncodeMasked.sltu (ctx : Ctx) (rd rs rt : Reg) : EncodeMasked.Statement (.sltu ctx rd rs rt) := masked_R3 ..
theorem EncodeMasked.slti (ctx : Ctx) (rt rs : Reg) (imm : BitVec 16) : EncodeMasked.Statement (.slti ctx rt rs imm) :=
  masked_RI ..
theorem EncodeMasked.sltiu (ctx : Ctx) (rt rs : Reg) (imm : BitVec 16) : EncodeMasked.Statement (.sltiu ctx rt rs imm) :=
  masked_RI ..
theorem EncodeMasked.movn (ctx : Ctx) (rd rs rt : Reg) : EncodeMasked.Statement (.movn ctx rd rs rt) := masked_R3 ..
theorem EncodeMasked.movz (ctx : Ctx) (rd rs rt : Reg) : EncodeMasked.Statement (.movz ctx rd rs rt) := masked_R3 ..
theorem EncodeMasked.lb (ctx : Ctx) (rt base : Reg) (off : BitVec 16) : EncodeMasked.Statement (.lb ctx rt base off) :=
  masked_M ..
theorem EncodeMasked.lbu (ctx : Ctx) (rt base : Reg) (off : BitVec 16) : EncodeMasked.Statement (.lbu ctx rt base off) :=
  masked_M ..
theorem EncodeMasked.lh (ctx : Ctx) (rt base : Reg) (off : BitVec 16) : EncodeMasked.Statement (.lh ctx rt base off) :=
  masked_M ..
theorem EncodeMasked.lhu (ctx : Ctx) (rt base : Reg) (off : BitVec 16) : EncodeMasked.Statement (.lhu ctx rt base off) :=
  masked_M ..
theorem EncodeMasked.lw (ctx : Ctx) (rt base : Reg) (off : BitVec 16) : EncodeMasked.Statement (.lw ctx rt base off) :=
  masked_M ..
theorem EncodeMasked.ld (ctx : Ctx) (rt base : Reg) (off : BitVec 16) : EncodeMasked.Statement (.ld ctx rt base off) :=
  masked_M ..
theorem EncodeMasked.lq (ctx : Ctx) (rt base : Reg) (off : BitVec 16) : EncodeMasked.Statement (.lq ctx rt base off) :=
  masked_M ..
theorem EncodeMasked.lwl (ctx : Ctx) (rt base : Reg) (off : BitVec 16) : EncodeMasked.Statement (.lwl ctx rt base off) :=
  masked_M ..
theorem EncodeMasked.lwr (ctx : Ctx) (rt base : Reg) (off : BitVec 16) : EncodeMasked.Statement (.lwr ctx rt base off) :=
  masked_M ..
theorem EncodeMasked.ldl (ctx : Ctx) (rt base : Reg) (off : BitVec 16) : EncodeMasked.Statement (.ldl ctx rt base off) :=
  masked_M ..
theorem EncodeMasked.ldr (ctx : Ctx) (rt base : Reg) (off : BitVec 16) : EncodeMasked.Statement (.ldr ctx rt base off) :=
  masked_M ..
theorem EncodeMasked.sb (ctx : Ctx) (rt base : Reg) (off : BitVec 16) : EncodeMasked.Statement (.sb ctx rt base off) :=
  masked_M ..
theorem EncodeMasked.sh (ctx : Ctx) (rt base : Reg) (off : BitVec 16) : EncodeMasked.Statement (.sh ctx rt base off) :=
  masked_M ..
theorem EncodeMasked.sw (ctx : Ctx) (rt base : Reg) (off : BitVec 16) : EncodeMasked.Statement (.sw ctx rt base off) :=
  masked_M ..
theorem EncodeMasked.sd (ctx : Ctx) (rt base : Reg) (off : BitVec 16) : EncodeMasked.Statement (.sd ctx rt base off) :=
  masked_M ..
theorem EncodeMasked.sq (ctx : Ctx) (rt base : Reg) (off : BitVec 16) : EncodeMasked.Statement (.sq ctx rt base off) :=
  masked_M ..
theorem EncodeMasked.lwc1 (ctx : Ctx) (rt base : Reg) (off : BitVec 16) : EncodeMasked.Statement (.lwc1 ctx rt base off) :=
  masked_M ..
theorem EncodeMasked.swc1 (ctx : Ctx) (rt base : Reg) (off : BitVec 16) : EncodeMasked.Statement (.swc1 ctx rt base off) :=
  masked_M ..
theorem EncodeMasked.lqc2 (ctx : Ctx) (rt base : Reg) (off : BitVec 16) : EncodeMasked.Statement (.lqc2 ctx rt base off) :=
  masked_M ..
theorem EncodeMasked.sqc2 (ctx : Ctx) (rt base : Reg) (off : BitVec 16) : EncodeMasked.Statement (.sqc2 ctx rt base off) :=
  masked_M ..
theorem EncodeMasked.mult (ctx : Ctx) (rd rs rt : Reg) : EncodeMasked.Statement (.mult ctx rd rs rt) := masked_R3 ..
theorem EncodeMasked.multu (ctx : Ctx) (rd rs rt : Reg) : EncodeMasked.Statement (.multu ctx rd rs rt) := masked_R3 ..
theorem EncodeMasked.div (ctx : Ctx) (rs rt : Reg) : EncodeMasked.Statement (.div ctx rs rt) := masked_RST ..
theorem EncodeMasked.divu (ctx : Ctx) (rs rt : Reg) : EncodeMasked.Statement (.divu ctx rs rt) := masked_RST ..
theorem EncodeMasked.mfhi (ctx : Ctx) (rd : Reg) : EncodeMasked.Statement (.mfhi ctx rd) := masked_RDO ..
theorem EncodeMasked.mflo (ctx : Ctx) (rd : Reg) : EncodeMasked.Statement (.mflo ctx rd) := masked_RDO ..
theorem EncodeMasked.mthi (ctx : Ctx) (rs : Reg) : EncodeMasked.Statement (.mthi ctx rs) := masked_RSO ..
theorem EncodeMasked.mtlo (ctx : Ctx) (rs : Reg) : EncodeMasked.Statement (.mtlo ctx rs) := masked_RSO ..
theorem EncodeMasked.pmfhi (ctx : Ctx) (rd : Reg) : EncodeMasked.Statement (.pmfhi ctx rd) := masked_RDO ..
theorem EncodeMasked.pmflo (ctx : Ctx) (rd : Reg) : EncodeMasked.Statement (.pmflo ctx rd) := masked_RDO ..
theorem EncodeMasked.pmthi (ctx : Ctx) (rs : Reg) : EncodeMasked.Statement (.pmthi ctx rs) := masked_RSO ..
theorem EncodeMasked.pmtlo (ctx : Ctx) (rs : Reg) : EncodeMasked.Statement (.pmtlo ctx rs) := masked_RSO ..
theorem EncodeMasked.pmulth (ctx : Ctx) (rd rs rt : Reg) : EncodeMasked.Statement (.pmulth ctx rd rs rt) :=
  masked_R3 ..
theorem EncodeMasked.pmaddh (ctx : Ctx) (rd rs rt : Reg) : EncodeMasked.Statement (.pmaddh ctx rd rs rt) :=
  masked_R3 ..
theorem EncodeMasked.vadd (ctx : Ctx) (fd fs ft : Reg) (dest : Mask) : EncodeMasked.Statement (.vadd ctx fd fs ft dest) :=
  masked_V3 ..
theorem EncodeMasked.vaddBc (ctx : Ctx) (fd fs ft : Reg) (dest : Mask) (bc : Lane) : EncodeMasked.Statement (.vaddBc ctx fd fs ft dest bc) :=
  masked_V3B ..
theorem EncodeMasked.vsub (ctx : Ctx) (fd fs ft : Reg) (dest : Mask) : EncodeMasked.Statement (.vsub ctx fd fs ft dest) :=
  masked_V3 ..
theorem EncodeMasked.vsubBc (ctx : Ctx) (fd fs ft : Reg) (dest : Mask) (bc : Lane) : EncodeMasked.Statement (.vsubBc ctx fd fs ft dest bc) :=
  masked_V3B ..
theorem EncodeMasked.vmul (ctx : Ctx) (fd fs ft : Reg) (dest : Mask) : EncodeMasked.Statement (.vmul ctx fd fs ft dest) :=
  masked_V3 ..
theorem EncodeMasked.vmulBc (ctx : Ctx) (fd fs ft : Reg) (dest : Mask) (bc : Lane) : EncodeMasked.Statement (.vmulBc ctx fd fs ft dest bc) :=
  masked_V3B ..
theorem EncodeMasked.vmula (ctx : Ctx) (fs ft : Reg) (dest : Mask) : EncodeMasked.Statement (.vmula ctx fs ft dest) :=
  masked_VA ..
theorem EncodeMasked.vmulaBc (ctx : Ctx) (fs ft : Reg) (dest : Mask) (bc : Lane) : EncodeMasked.Statement (.vmulaBc ctx fs ft dest bc) :=
  masked_VAB ..
theorem EncodeMasked.vmadda (ctx : Ctx) (fs ft : Reg) (dest : Mask) : EncodeMasked.Statement (.vmadda ctx fs ft dest) :=
  masked_VA ..
theorem EncodeMasked.vmaddaBc (ctx : Ctx) (fs ft : Reg) (dest : Mask) (bc : Lane) : EncodeMasked.Statement (.vmaddaBc ctx fs ft dest bc) :=
  masked_VAB ..
theorem EncodeMasked.vmsuba (ctx : Ctx) (fs ft : Reg) (dest : Mask) : EncodeMasked.Statement (.vmsuba ctx fs ft dest) :=
  masked_VA ..
theorem EncodeMasked.vmsubaBc (ctx : Ctx) (fs ft : Reg) (dest : Mask) (bc : Lane) : EncodeMasked.Statement (.vmsubaBc ctx fs ft dest bc) :=
  masked_VAB ..
theorem EncodeMasked.vmadd (ctx : Ctx) (fd fs ft : Reg) (dest : Mask) : EncodeMasked.Statement (.vmadd ctx fd fs ft dest) :=
  masked_V3 ..
theorem EncodeMasked.vmaddBc (ctx : Ctx) (fd fs ft : Reg) (dest : Mask) (bc : Lane) : EncodeMasked.Statement (.vmaddBc ctx fd fs ft dest bc) :=
  masked_V3B ..
theorem EncodeMasked.vmsub (ctx : Ctx) (fd fs ft : Reg) (dest : Mask) : EncodeMasked.Statement (.vmsub ctx fd fs ft dest) :=
  masked_V3 ..
theorem EncodeMasked.vmsubBc (ctx : Ctx) (fd fs ft : Reg) (dest : Mask) (bc : Lane) : EncodeMasked.Statement (.vmsubBc ctx fd fs ft dest bc) :=
  masked_V3B ..
theorem EncodeMasked.vaddq (ctx : Ctx) (fd fs : Reg) (dest : Mask) : EncodeMasked.Statement (.vaddq ctx fd fs dest) :=
  masked_V2 ..
theorem EncodeMasked.vsubq (ctx : Ctx) (fd fs : Reg) (dest : Mask) : EncodeMasked.Statement (.vsubq ctx fd fs dest) :=
  masked_V2 ..
theorem EncodeMasked.vmulq (ctx : Ctx) (fd fs : Reg) (dest : Mask) : EncodeMasked.Statement (.vmulq ctx fd fs dest) :=
  masked_V2 ..
theorem EncodeMasked.vaddi (ctx : Ctx) (fd fs : Reg) (dest : Mask) : EncodeMasked.Statement (.vaddi ctx fd fs dest) :=
  masked_V2 ..
theorem EncodeMasked.vsubi (ctx : Ctx) (fd fs : Reg) (dest : Mask) : EncodeMasked.Statement (.vsubi ctx fd fs dest) :=
  masked_V2 ..
theorem EncodeMasked.vmuli (ctx : Ctx) (fd fs : Reg) (dest : Mask) : EncodeMasked.Statement (.vmuli ctx fd fs dest) :=
  masked_V2 ..
theorem EncodeMasked.vdiv (ctx : Ctx) (fs ft : Reg) (fsf ftf : Lane) : EncodeMasked.Statement (.vdiv ctx fs ft fsf ftf) :=
  masked_VQ ..
theorem EncodeMasked.vsqrt (ctx : Ctx) (ft : Reg) (ftf : Lane) : EncodeMasked.Statement (.vsqrt ctx ft ftf) :=
  masked_VQ1 ..
theorem EncodeMasked.vrsqrt (ctx : Ctx) (fs ft : Reg) (fsf ftf : Lane) : EncodeMasked.Statement (.vrsqrt ctx fs ft fsf ftf) :=
  masked_VQ ..
theorem EncodeMasked.vrget (ctx : Ctx) (fd : Reg) (dest : Mask) : EncodeMasked.Statement (.vrget ctx fd dest) :=
  masked_VR ..
theorem EncodeMasked.vrnext (ctx : Ctx) (fd : Reg) (dest : Mask) : EncodeMasked.Statement (.vrnext ctx fd dest) :=
  masked_VR ..
theorem EncodeMasked.vrxor (ctx : Ctx) (fs : Reg) (fsf : Lane) : EncodeMasked.Statement (.vrxor ctx fs fsf) :=
  masked_VX ..
theorem EncodeMasked.vitof0 (ctx : Ctx) (fd fs : Reg) (dest : Mask) : EncodeMasked.Statement (.vitof0 ctx fd fs dest) :=
  masked_V2 ..
theorem EncodeMasked.vitof12 (ctx : Ctx) (fd fs : Reg) (dest : Mask) : EncodeMasked.Statement (.vitof12 ctx fd fs dest) :=
  masked_V2 ..
theorem EncodeMasked.vitof15 (ctx : Ctx) (fd fs : Reg) (dest : Mask) : EncodeMasked.Statement (.vitof15 ctx fd fs dest) :=
  masked_V2 ..
theorem EncodeMasked.vftoi0 (ctx : Ctx) (fd fs : Reg) (dest : Mask) : EncodeMasked.Statement (.vftoi0 ctx fd fs dest) :=
  masked_V2 ..
theorem EncodeMasked.vftoi4 (ctx : Ctx) (fd fs : Reg) (dest : Mask) : EncodeMasked.Statement (.vftoi4 ctx fd fs dest) :=
  masked_V2 ..
theorem EncodeMasked.vftoi12 (ctx : Ctx) (fd fs : Reg) (dest : Mask) : EncodeMasked.Statement (.vftoi12 ctx fd fs dest) :=
  masked_V2 ..
theorem EncodeMasked.pextlb (ctx : Ctx) (rd rs rt : Reg) : EncodeMasked.Statement (.pextlb ctx rd rs rt) :=
  masked_R3 ..
theorem EncodeMasked.pextlh (ctx : Ctx) (rd rs rt : Reg) : EncodeMasked.Statement (.pextlh ctx rd rs rt) :=
  masked_R3 ..
theorem EncodeMasked.pextlw (ctx : Ctx) (rd rs rt : Reg) : EncodeMasked.Statement (.pextlw ctx rd rs rt) :=
  masked_R3 ..
theorem EncodeMasked.pextub (ctx : Ctx) (rd rs rt : Reg) : EncodeMasked.Statement (.pextub ctx rd rs rt) :=
  masked_R3 ..
theorem EncodeMasked.pextuh (ctx : Ctx) (rd rs rt : Reg) : EncodeMasked.Statement (.pextuh ctx rd rs rt) :=
  masked_R3 ..
theorem EncodeMasked.pextuw (ctx : Ctx) (rd rs rt : Reg) : EncodeMasked.Statement (.pextuw ctx rd rs rt) :=
  masked_R3 ..
theorem EncodeMasked.ppacb (ctx : Ctx) (rd rs rt : Reg) : EncodeMasked.Statement (.ppacb ctx rd rs rt) := masked_R3 ..
theorem EncodeMasked.ppach (ctx : Ctx) (rd rs rt : Reg) : EncodeMasked.Statement (.ppach ctx rd rs rt) := masked_R3 ..
theorem EncodeMasked.ppacw (ctx : Ctx) (rd rs rt : Reg) : EncodeMasked.Statement (.ppacw ctx rd rs rt) := masked_R3 ..
theorem EncodeMasked.paddb (ctx : Ctx) (rd rs rt : Reg) : EncodeMasked.Statement (.paddb ctx rd rs rt) := masked_R3 ..
theorem EncodeMasked.paddh (ctx : Ctx) (rd rs rt : Reg) : EncodeMasked.Statement (.paddh ctx rd rs rt) := masked_R3 ..
theorem EncodeMasked.paddw (ctx : Ctx) (rd rs rt : Reg) : EncodeMasked.Statement (.paddw ctx rd rs rt) := masked_R3 ..
theorem EncodeMasked.psubb (ctx : Ctx) (rd rs rt : Reg) : EncodeMasked.Statement (.psubb ctx rd rs rt) := masked_R3 ..
theorem EncodeMasked.psubh (ctx : Ctx) (rd rs rt : Reg) : EncodeMasked.Statement (.psubh ctx rd rs rt) := masked_R3 ..
theorem EncodeMasked.psubw (ctx : Ctx) (rd rs rt : Reg) : EncodeMasked.Statement (.psubw ctx rd rs rt) := masked_R3 ..
theorem EncodeMasked.pceqb (ctx : Ctx) (rd rs rt : Reg) : EncodeMasked.Statement (.pceqb ctx rd rs rt) := masked_R3 ..
theorem EncodeMasked.pceqh (ctx : Ctx) (rd rs rt : Reg) : EncodeMasked.Statement (.pceqh ctx rd rs rt) := masked_R3 ..
theorem EncodeMasked.pceqw (ctx : Ctx) (rd rs rt : Reg) : EncodeMasked.Statement (.pceqw ctx rd rs rt) := masked_R3 ..
theorem EncodeMasked.pcgtb (ctx : Ctx) (rd rs rt : Reg) : EncodeMasked.Statement (.pcgtb ctx rd rs rt) := masked_R3 ..
theorem EncodeMasked.pcgth (ctx : Ctx) (rd rs rt : Reg) : EncodeMasked.Statement (.pcgth ctx rd rs rt) := masked_R3 ..
theorem EncodeMasked.pcgtw (ctx : Ctx) (rd rs rt : Reg) : EncodeMasked.Statement (.pcgtw ctx rd rs rt) := masked_R3 ..
theorem EncodeMasked.pmaxh (ctx : Ctx) (rd rs rt : Reg) : EncodeMasked.Statement (.pmaxh ctx rd rs rt) := masked_R3 ..
theorem EncodeMasked.pmaxw (ctx : Ctx) (rd rs rt : Reg) : EncodeMasked.Statement (.pmaxw ctx rd rs rt) := masked_R3 ..
theorem EncodeMasked.pminh (ctx : Ctx) (rd rs rt : Reg) : EncodeMasked.Statement (.pminh ctx rd rs rt) := masked_R3 ..
theorem EncodeMasked.pminw (ctx : Ctx) (rd rs rt : Reg) : EncodeMasked.Statement (.pminw ctx rd rs rt) := masked_R3 ..
theorem EncodeMasked.psllh (ctx : Ctx) (rd rt : Reg) (sa : Fin 16) : EncodeMasked.Statement (.psllh ctx rd rt sa) :=
  masked_SH4 ..
theorem EncodeMasked.psrlh (ctx : Ctx) (rd rt : Reg) (sa : Fin 16) : EncodeMasked.Statement (.psrlh ctx rd rt sa) :=
  masked_SH4 ..
theorem EncodeMasked.psrah (ctx : Ctx) (rd rt : Reg) (sa : Fin 16) : EncodeMasked.Statement (.psrah ctx rd rt sa) :=
  masked_SH4 ..
theorem EncodeMasked.psllw (ctx : Ctx) (rd rt : Reg) (sa : Fin 32) : EncodeMasked.Statement (.psllw ctx rd rt sa) :=
  masked_SH5 ..
theorem EncodeMasked.psrlw (ctx : Ctx) (rd rt : Reg) (sa : Fin 32) : EncodeMasked.Statement (.psrlw ctx rd rt sa) :=
  masked_SH5 ..
theorem EncodeMasked.psraw (ctx : Ctx) (rd rt : Reg) (sa : Fin 32) : EncodeMasked.Statement (.psraw ctx rd rt sa) :=
  masked_SH5 ..
theorem EncodeMasked.plzcw (ctx : Ctx) (rd rs : Reg) : EncodeMasked.Statement (.plzcw ctx rd rs) := masked_R2B ..
theorem EncodeMasked.dmaTospr (ctx : Ctx) (rq rm rsp : Reg) : EncodeMasked.Statement (.dmaTospr ctx rq rm rsp) :=
  masked_D ..
theorem EncodeMasked.dmaFromspr (ctx : Ctx) (rq rm rsp : Reg) : EncodeMasked.Statement (.dmaFromspr ctx rq rm rsp) :=
  masked_D ..
theorem EncodeMasked.dmaTosprIl (ctx : Ctx) (rq rm rsp : Reg) : EncodeMasked.Statement (.dmaTosprIl ctx rq rm rsp) :=
  masked_D ..
theorem EncodeMasked.dmaFromsprIl (ctx : Ctx) (rq rm rsp : Reg) : EncodeMasked.Statement (.dmaFromsprIl ctx rq rm rsp) :=
  masked_D ..
theorem EncodeMasked.ncall (ctx : Ctx) (rs : Reg) : EncodeMasked.Statement (.ncall ctx rs) := masked_N ..

end Sys2Proof.Laws
end

