-- ==== Sys2Proof/Laws/Rows.lean ====
section
/-! SUPPORT. Reading a row of the opcode map backwards: the fields a format keeps, and the word of the command a row gives
(30_encoding.md R112, R114, R117). -/

namespace Sys2Proof

/-- The fields a format uses, the others 0 (30_encoding.md R112). -/
def Fields.keep (f : Fields) : Format → Fields
  | .Z => { f with a := 0, b := 0, c := 0, dest := 0, bc := 0, fsf := 0, ftf := 0, rsv := 0, sa := 0, imm16 := 0 }
  | .C => { f with a := (f.a.setWidth 4).setWidth 5, b := 0, c := 0, dest := 0, bc := 0, fsf := 0, ftf := 0, rsv := 0, sa := 0, imm16 := 0 }
  | .R3 => { f with dest := 0, bc := 0, fsf := 0, ftf := 0, rsv := 0, sa := 0, imm16 := 0 }
  | .R2B => { f with c := 0, dest := 0, bc := 0, fsf := 0, ftf := 0, rsv := 0, sa := 0, imm16 := 0 }
  | .RDO => { f with b := 0, c := 0, dest := 0, bc := 0, fsf := 0, ftf := 0, rsv := 0, sa := 0, imm16 := 0 }
  | .RSO => { f with a := 0, c := 0, dest := 0, bc := 0, fsf := 0, ftf := 0, rsv := 0, sa := 0, imm16 := 0 }
  | .RST => { f with a := 0, dest := 0, bc := 0, fsf := 0, ftf := 0, rsv := 0, sa := 0, imm16 := 0 }
  | .RI => { f with c := 0, dest := 0, bc := 0, fsf := 0, ftf := 0, rsv := 0, sa := 0 }
  | .LI => { f with b := 0, c := 0, dest := 0, bc := 0, fsf := 0, ftf := 0, rsv := 0, sa := 0 }
  | .SH4 => { f with b := 0, dest := 0, bc := 0, fsf := 0, ftf := 0, rsv := 0, sa := (f.sa.setWidth 4).setWidth 6, imm16 := 0 }
  | .SH5 => { f with b := 0, dest := 0, bc := 0, fsf := 0, ftf := 0, rsv := 0, sa := (f.sa.setWidth 5).setWidth 6, imm16 := 0 }
  | .SH6 => { f with b := 0, dest := 0, bc := 0, fsf := 0, ftf := 0, rsv := 0, imm16 := 0 }
  | .M => { f with c := 0, dest := 0, bc := 0, fsf := 0, ftf := 0, rsv := 0, sa := 0 }
  | .V3 => { f with bc := 0, fsf := 0, ftf := 0, rsv := 0, sa := 0, imm16 := 0 }
  | .V3B => { f with fsf := 0, ftf := 0, rsv := 0, sa := 0, imm16 := 0 }
  | .VA => { f with a := 0, bc := 0, fsf := 0, ftf := 0, rsv := 0, sa := 0, imm16 := 0 }
  | .VAB => { f with a := 0, fsf := 0, ftf := 0, rsv := 0, sa := 0, imm16 := 0 }
  | .V2 => { f with c := 0, bc := 0, fsf := 0, ftf := 0, rsv := 0, sa := 0, imm16 := 0 }
  | .VQ => { f with a := 0, dest := 0, bc := 0, rsv := 0, sa := 0, imm16 := 0 }
  | .VQ1 => { f with a := 0, b := 0, dest := 0, bc := 0, fsf := 0, rsv := 0, sa := 0, imm16 := 0 }
  | .VR => { f with b := 0, c := 0, bc := 0, fsf := 0, ftf := 0, rsv := 0, sa := 0, imm16 := 0 }
  | .VX => { f with a := 0, c := 0, dest := 0, bc := 0, ftf := 0, rsv := 0, sa := 0, imm16 := 0 }
  | .D => { f with dest := 0, bc := 0, fsf := 0, ftf := 0, rsv := 0, sa := 0, imm16 := 0 }
  | .N => { f with a := 0, c := 0, dest := 0, bc := 0, fsf := 0, ftf := 0, rsv := 0, sa := 0, imm16 := 0 }

theorem sctx_kept (a : BitVec 5) (h : a &&& 0x10#5 = 0#5) : (a.setWidth 4).setWidth 5 = a := by
  have h4 : a[4] = false := by simpa using congrArg (fun v => v.getLsbD 4) h
  apply BitVec.eq_of_getLsbD_eq
  intro j hj
  interval_cases j <;> simp [h4]
theorem sa4_kept (a : BitVec 6) (h : a &&& 0x30#6 = 0#6) : (a.setWidth 4).setWidth 6 = a := by
  have h4 : a[4] = false := by simpa using congrArg (fun v => v.getLsbD 4) h
  have h5 : a[5] = false := by simpa using congrArg (fun v => v.getLsbD 5) h
  apply BitVec.eq_of_getLsbD_eq
  intro j hj
  interval_cases j <;> simp [h4, h5]
theorem sa5_kept (a : BitVec 6) (h : a &&& 0x20#6 = 0#6) : (a.setWidth 5).setWidth 6 = a := by
  have h5 : a[5] = false := by simpa using congrArg (fun v => v.getLsbD 5) h
  apply BitVec.eq_of_getLsbD_eq
  intro j hj
  interval_cases j <;> simp [h5]

theorem and_all4 (u : BitVec 4) : u &&& 15#4 = u := BitVec.and_allOnes
theorem and_all5 (u : BitVec 5) : u &&& 31#5 = u := BitVec.and_allOnes
theorem and_all2 (u : BitVec 2) : u &&& 3#2 = u := BitVec.and_allOnes
theorem and_all1 (u : BitVec 1) : u &&& 1#1 = u := BitVec.and_allOnes
theorem and_all6 (u : BitVec 6) : u &&& 63#6 = u := BitVec.and_allOnes
theorem and_all16 (u : BitVec 16) : u &&& 65535#16 = u := BitVec.and_allOnes

/-- A word whose unused bits are 0 has only the fields its format keeps (30_encoding.md R117). -/
theorem Fields.keep_of_masked (w : Dword) (fmt : Format)
    (h : w &&& fmt.mask = opcodeBits (Fields.ofWord w).unit (Fields.ofWord w).fn) :
    (Fields.ofWord w).keep fmt = Fields.ofWord w := by
  have h := congrArg Fields.ofWord h
  rw [Fields.ofWord_and, Fields.ofWord_opcodeBits] at h
  generalize Fields.ofWord w = f at h ⊢
  obtain ⟨unit, fn, ctx, a, b, c, dest, bc, fsf, ftf, rsv, sa, imm16⟩ := f
  cases fmt <;>
  · simp [Fields.base, Fields.ofWord, Format.mask, and_all4, and_all5, and_all2, and_all1, and_all6, and_all16] at h
    simp only [Fields.keep]
    simp [h, sctx_kept, sa4_kept, sa5_kept]

/-- A row read backwards: its format is the command's, and the command's fields are the ones the format keeps. -/
def Fields.Reads (f : Fields) (fmt : Format) (i : Instr) : Prop := fmt = i.format ∧ Fields.ofInstr i = f.keep fmt

theorem reads_rowOfRF {f : Fields} {fmt : Format} {i : Instr} (hu : f.unit.toNat = 0) (h : rowOfRF f = some (fmt, i)) :
    f.Reads fmt i := by
  obtain ⟨unit, fn, ctx, a, b, c, dest, bc, fsf, ftf, rsv, sa, imm16⟩ := f
  have hu : unit = 0#4 := BitVec.eq_of_toNat_eq hu
  subst hu
  unfold rowOfRF at h
  dsimp only at h
  split at h
  all_goals first
    | (cases h; done)
    | (rename_i hf
       have hf := (BitVec.ofNat_toNat 8 fn |>.trans (BitVec.setWidth_eq fn)).symm.trans (congrArg (BitVec.ofNat 8) hf)
       subst hf
       cases h
       exact ⟨rfl, rfl⟩)
theorem reads_rowOfSA {f : Fields} {fmt : Format} {i : Instr} (hu : f.unit.toNat = 1) (h : rowOfSA f = some (fmt, i)) :
    f.Reads fmt i := by
  obtain ⟨unit, fn, ctx, a, b, c, dest, bc, fsf, ftf, rsv, sa, imm16⟩ := f
  have hu : unit = 1#4 := BitVec.eq_of_toNat_eq hu
  subst hu
  unfold rowOfSA at h
  dsimp only at h
  split at h
  all_goals first
    | (cases h; done)
    | (rename_i hf
       have hf := (BitVec.ofNat_toNat 8 fn |>.trans (BitVec.setWidth_eq fn)).symm.trans (congrArg (BitVec.ofNat 8) hf)
       subst hf
       cases h
       exact ⟨rfl, rfl⟩)
theorem reads_rowOfSM {f : Fields} {fmt : Format} {i : Instr} (hu : f.unit.toNat = 2) (h : rowOfSM f = some (fmt, i)) :
    f.Reads fmt i := by
  obtain ⟨unit, fn, ctx, a, b, c, dest, bc, fsf, ftf, rsv, sa, imm16⟩ := f
  have hu : unit = 2#4 := BitVec.eq_of_toNat_eq hu
  subst hu
  unfold rowOfSM at h
  dsimp only at h
  split at h
  all_goals first
    | (cases h; done)
    | (rename_i hf
       have hf := (BitVec.ofNat_toNat 8 fn |>.trans (BitVec.setWidth_eq fn)).symm.trans (congrArg (BitVec.ofNat 8) hf)
       subst hf
       cases h
       exact ⟨rfl, rfl⟩)
theorem reads_rowOfMD {f : Fields} {fmt : Format} {i : Instr} (hu : f.unit.toNat = 3) (h : rowOfMD f = some (fmt, i)) :
    f.Reads fmt i := by
  obtain ⟨unit, fn, ctx, a, b, c, dest, bc, fsf, ftf, rsv, sa, imm16⟩ := f
  have hu : unit = 3#4 := BitVec.eq_of_toNat_eq hu
  subst hu
  unfold rowOfMD at h
  dsimp only at h
  split at h
  all_goals first
    | (cases h; done)
    | (rename_i hf
       have hf := (BitVec.ofNat_toNat 8 fn |>.trans (BitVec.setWidth_eq fn)).symm.trans (congrArg (BitVec.ofNat 8) hf)
       subst hf
       cases h
       exact ⟨rfl, rfl⟩)
theorem reads_rowOfVA {f : Fields} {fmt : Format} {i : Instr} (hu : f.unit.toNat = 4) (h : rowOfVA f = some (fmt, i)) :
    f.Reads fmt i := by
  obtain ⟨unit, fn, ctx, a, b, c, dest, bc, fsf, ftf, rsv, sa, imm16⟩ := f
  have hu : unit = 4#4 := BitVec.eq_of_toNat_eq hu
  subst hu
  unfold rowOfVA at h
  dsimp only at h
  split at h
  all_goals first
    | (cases h; done)
    | (rename_i hf
       have hf := (BitVec.ofNat_toNat 8 fn |>.trans (BitVec.setWidth_eq fn)).symm.trans (congrArg (BitVec.ofNat 8) hf)
       subst hf
       cases h
       exact ⟨rfl, rfl⟩)
theorem reads_rowOfVS {f : Fields} {fmt : Format} {i : Instr} (hu : f.unit.toNat = 5) (h : rowOfVS f = some (fmt, i)) :
    f.Reads fmt i := by
  obtain ⟨unit, fn, ctx, a, b, c, dest, bc, fsf, ftf, rsv, sa, imm16⟩ := f
  have hu : unit = 5#4 := BitVec.eq_of_toNat_eq hu
  subst hu
  unfold rowOfVS at h
  dsimp only at h
  split at h
  all_goals first
    | (cases h; done)
    | (rename_i hf
       have hf := (BitVec.ofNat_toNat 8 fn |>.trans (BitVec.setWidth_eq fn)).symm.trans (congrArg (BitVec.ofNat 8) hf)
       subst hf
       cases h
       exact ⟨rfl, rfl⟩)
theorem reads_rowOfPI {f : Fields} {fmt : Format} {i : Instr} (hu : f.unit.toNat = 6) (h : rowOfPI f = some (fmt, i)) :
    f.Reads fmt i := by
  obtain ⟨unit, fn, ctx, a, b, c, dest, bc, fsf, ftf, rsv, sa, imm16⟩ := f
  have hu : unit = 6#4 := BitVec.eq_of_toNat_eq hu
  subst hu
  unfold rowOfPI at h
  dsimp only at h
  split at h
  all_goals first
    | (cases h; done)
    | (rename_i hf
       have hf := (BitVec.ofNat_toNat 8 fn |>.trans (BitVec.setWidth_eq fn)).symm.trans (congrArg (BitVec.ofNat 8) hf)
       subst hf
       cases h
       exact ⟨rfl, rfl⟩)
theorem reads_rowOfDM {f : Fields} {fmt : Format} {i : Instr} (hu : f.unit.toNat = 7) (h : rowOfDM f = some (fmt, i)) :
    f.Reads fmt i := by
  obtain ⟨unit, fn, ctx, a, b, c, dest, bc, fsf, ftf, rsv, sa, imm16⟩ := f
  have hu : unit = 7#4 := BitVec.eq_of_toNat_eq hu
  subst hu
  unfold rowOfDM at h
  dsimp only at h
  split at h
  all_goals first
    | (cases h; done)
    | (rename_i hf
       have hf := (BitVec.ofNat_toNat 8 fn |>.trans (BitVec.setWidth_eq fn)).symm.trans (congrArg (BitVec.ofNat 8) hf)
       subst hf
       cases h
       exact ⟨rfl, rfl⟩)
theorem reads_rowOfNC {f : Fields} {fmt : Format} {i : Instr} (hu : f.unit.toNat = 8) (h : rowOfNC f = some (fmt, i)) :
    f.Reads fmt i := by
  obtain ⟨unit, fn, ctx, a, b, c, dest, bc, fsf, ftf, rsv, sa, imm16⟩ := f
  have hu : unit = 8#4 := BitVec.eq_of_toNat_eq hu
  subst hu
  unfold rowOfNC at h
  dsimp only at h
  split at h
  all_goals first
    | (cases h; done)
    | (rename_i hf
       have hf := (BitVec.ofNat_toNat 8 fn |>.trans (BitVec.setWidth_eq fn)).symm.trans (congrArg (BitVec.ofNat 8) hf)
       subst hf
       cases h
       exact ⟨rfl, rfl⟩)

theorem reads_rowOf {f : Fields} {fmt : Format} {i : Instr} (h : rowOf f = some (fmt, i)) : f.Reads fmt i := by
  unfold rowOf at h
  split at h
  · exact reads_rowOfRF ‹_› h
  · exact reads_rowOfSA ‹_› h
  · exact reads_rowOfSM ‹_› h
  · exact reads_rowOfMD ‹_› h
  · exact reads_rowOfVA ‹_› h
  · exact reads_rowOfVS ‹_› h
  · exact reads_rowOfPI ‹_› h
  · exact reads_rowOfDM ‹_› h
  · exact reads_rowOfNC ‹_› h
  · cases h

end Sys2Proof
end

