-- ==== Sys2Proof/Laws/Step.lean ====
section
/-! SUPPORT. What a step can do, said once for each input, and what serving the host and ending a command leave alone. -/

namespace Sys2Proof.Machine

/-- No meaning reads or changes the inputs still waiting. -/
theorem inbox_exec {i : Instr} {s t : State} (h : exec i s = .next t) : t.inbox = s.inbox := by
  cases exec_shape i s t h with
  | regs _ st _ => rw [st.rest]
  | rng _ st => rw [st.rest]
  | fatal e _ eq => rw [eq, inbox_raiseFatal]
  | load a n _ _ _ _ st _ => rw [st.rest, State.inbox_logTransfers]
  | store a n v _ _ _ _ eq => rw [eq, State.inbox_logTransfers, State.inbox_memWrite]
  | toSpad f a n ts _ _ eq => rw [eq, State.inbox_logTransfers]
  | fromSpad f a n ts _ _ eq => rw [eq, State.inbox_logTransfers]
  | native q v st _ eq => rw [eq, State.inbox_setXD]

/-! DMA: the one next state of a copy whose tests pass. -/

/-- The transfers of a copy to the scratchpad (11_interfaces.md R64). -/
theorem next_dmaToSpad {i : Instr} {il : Bool} {o : DmaOperands} {s t : State} (h : dmaToSpad i il o s = .next t) :
    (∃ e, t = raiseFatal (encode i) e s) ∨
    t = { s with spad := Memory.copyQuads s.arena (sourceAt il o.madr) (destAt o.sadr) s.spad o.qwc }.logTransfers
      ((List.range o.qwc).map fun k =>
        { write := false, addr := sourceAt il o.madr k, len := 16,
          data := BitVec.ofNat 128 (s.arena.read (sourceAt il o.madr k) 16) }) :=
  (guarded_cases h).imp (fun ⟨e, _, h⟩ => ⟨e, h⟩) (fun ⟨_, h⟩ => by cases h; rfl)

/-- The transfers of a copy to the arena (11_interfaces.md R64). -/
theorem next_dmaFromSpad {i : Instr} {il : Bool} {o : DmaOperands} {s t : State} (h : dmaFromSpad i il o s = .next t) :
    (∃ e, t = raiseFatal (encode i) e s) ∨
    t = { s with arena := Memory.copyQuads s.spad (sourceAt il o.sadr) (destAt o.madr) s.arena o.qwc }.logTransfers
      ((List.range o.qwc).map fun k =>
        { write := true, addr := destAt o.madr k, len := 16,
          data := BitVec.ofNat 128 (s.spad.read (sourceAt il o.sadr k) 16) }) :=
  (guarded_cases h).imp (fun ⟨e, _, h⟩ => ⟨e, h⟩) (fun ⟨_, h⟩ => by cases h; rfl)

/-! The host. -/

/-- A host write changes registers of its context and `RNG` alone. -/
theorem regStep_hostWrite (s : State) (file : Fin 8) (c : Ctx) (idx : Fin 32) (wmask : BitVec 16) (new : Quad) :
    RegStep c s (hostWrite s file c idx wmask new) := by
  unfold hostWrite
  split
  · exact .refl ..
  · split
    · exact .setX ..
    · exact .setF ..
    · exact .setVf ..
    · split
      · exact .setAcc ..
      · exact .setQ ..
      · exact .setBank _ _ _ id
      · exact .setHi ..
      · exact .setLo ..
      · exact .refl ..
    · split
      · exact .setRng ..
      · exact .refl ..
    · exact .refl ..

/-! The inputs. -/

@[simp] theorem firstHost_nil : firstHost [] = none := rfl
@[simp] theorem firstHost_host (e : HostEvent) (l : List Input) : firstHost (.host e :: l) = some (e, l) := rfl
@[simp] theorem firstHost_command (w : Dword) (l : List Input) :
    firstHost (.command w :: l) = (firstHost l).map (fun p => (p.1, .command w :: p.2)) := rfl
@[simp] theorem dropCommand_nil : dropCommand [] = [] := rfl
@[simp] theorem dropCommand_host (e : HostEvent) (l : List Input) : dropCommand (.host e :: l) = .host e :: dropCommand l := rfl
@[simp] theorem dropCommand_command (w : Dword) (l : List Input) : dropCommand (.command w :: l) = l := rfl

theorem firstHost_eq_none {l : List Input} : firstHost l = none ↔ ∀ e, Input.host e ∉ l := by
  induction l with
  | nil => simp
  | cons i l ih =>
    cases i with
    | host e => exact iff_of_false (by simp) (fun h => h e (by simp))
    | command w => simp [ih]

theorem command_mem_firstHost {l rest : List Input} {e : HostEvent} (h : firstHost l = some (e, rest)) (w : Dword) :
    Input.command w ∈ rest ↔ Input.command w ∈ l := by
  induction l generalizing rest with
  | nil => cases h
  | cons i l ih =>
    cases i with
    | host e' => cases h; simp
    | command v =>
      obtain ⟨p, hp, hq⟩ := Option.map_eq_some_iff.mp h
      cases hq
      simp [ih hp]

/-! The step, by its input. -/

theorem step_idle {s : State} (h : s.inbox = []) : step s = .next s := by
  unfold step; rw [h]; simp

theorem step_host {s : State} {e : HostEvent} {rest : List Input} (h : s.inbox = .host e :: rest) :
    step s = .next (serveHost e { s with inbox := rest }) := by
  unfold step; rw [h]; simp

theorem step_command {s : State} {w : Dword} {rest : List Input} (hs : s.halted = false) (h : s.inbox = .command w :: rest) :
    step s = acceptCommand w s := by
  unfold step; rw [h]; simp [hs]

theorem step_halted_none {s : State} (hs : s.halted = true) (h : firstHost s.inbox = none) : step s = .next s := by
  unfold step; rw [h]; simp [hs]

theorem step_halted_some {s : State} {e : HostEvent} {rest : List Input} (hs : s.halted = true)
    (h : firstHost s.inbox = some (e, rest)) : step s = .next (serveHost e { s with inbox := rest }) := by
  unfold step; rw [h]; simp [hs]

theorem acceptCommand_ok {s : State} {w : Dword} {i : Instr} (h : decodeWord s.cfg.nctx w = .ok i) :
    acceptCommand w s = finish (exec i (beginCommand s)) := by
  unfold acceptCommand; rw [h]

theorem acceptCommand_error {s : State} {w : Dword} {r : DecodeReject} (h : decodeWord s.cfg.nctx w = .error r) :
    acceptCommand w s = .next (endCommand
      (raiseFatal w { code := .enc, info0 := 0, info1 := 0, info2 := 0 } (beginCommand s))) := by
  unfold acceptCommand; rw [h]; rfl

end Sys2Proof.Machine
end

