-- ==== Sys2Proof/Machine/Assembler.lean ====
section
/-! DEFINITION. The assembler syntax of 30_encoding.md R122 and R123: one line of text read as a command. Log entry 24. -/

namespace Sys2Proof

/-- A place a general, float or vector register number goes to (30_encoding.md R111). -/
inductive Slot where
  | a | b | c
deriving DecidableEq, Repr

/-- What one written operand may be (R122). -/
inductive OperandForm where
  /-- A general register, by number or alias. -/
  | general (s : Slot)
  /-- A scalar float register. -/
  | float (s : Slot)
  /-- A vector register. -/
  | vector (s : Slot)
  /-- One lane of a vector register, selected by `fsf`. -/
  | firstLane (s : Slot)
  /-- One lane of a vector register, selected by `ftf`. -/
  | secondLane (s : Slot)
  /-- An immediate. -/
  | imm
  /-- A shift amount below a bound. -/
  | amount (bound : Nat)
  /-- `off(base)`. -/
  | memory
  /-- The leading `Q` of VDIV, VSQRT and VRSQRT. -/
  | q
  /-- `@n`. -/
  | context
deriving DecidableEq, Repr

/-- One row of R118 as the assembler needs it. -/
structure AsmRow where
  mnemonic : String
  unit     : BitVec 4
  fn       : BitVec 8
  format   : Format
deriving DecidableEq, Repr

/-- Rows of unit 0x0 RF (R118). -/
def asmRowsRF : List AsmRow :=
  [⟨"NOP", 0x0#4, 0x01#8, .Z⟩,
   ⟨"CTXINIT", 0x0#4, 0x02#8, .Z⟩,
   ⟨"VFCOPY", 0x0#4, 0x03#8, .C⟩,
   ⟨"MFC1", 0x0#4, 0x04#8, .R2B⟩,
   ⟨"MTC1", 0x0#4, 0x05#8, .R2B⟩,
   ⟨"QMFC2", 0x0#4, 0x06#8, .R2B⟩,
   ⟨"QMTC2", 0x0#4, 0x07#8, .R2B⟩]

/-- Rows of unit 0x1 SA (R118). -/
def asmRowsSA1 : List AsmRow :=
  [⟨"ADDU", 0x1#4, 0x01#8, .R3⟩,
   ⟨"SUBU", 0x1#4, 0x02#8, .R3⟩,
   ⟨"DADDU", 0x1#4, 0x03#8, .R3⟩,
   ⟨"DSUBU", 0x1#4, 0x04#8, .R3⟩,
   ⟨"ADDIU", 0x1#4, 0x05#8, .RI⟩,
   ⟨"DADDIU", 0x1#4, 0x06#8, .RI⟩,
   ⟨"AND", 0x1#4, 0x07#8, .R3⟩,
   ⟨"OR", 0x1#4, 0x08#8, .R3⟩,
   ⟨"XOR", 0x1#4, 0x09#8, .R3⟩,
   ⟨"NOR", 0x1#4, 0x0A#8, .R3⟩,
   ⟨"ANDI", 0x1#4, 0x0B#8, .RI⟩,
   ⟨"ORI", 0x1#4, 0x0C#8, .RI⟩,
   ⟨"XORI", 0x1#4, 0x0D#8, .RI⟩,
   ⟨"LUI", 0x1#4, 0x0E#8, .LI⟩,
   ⟨"SLL", 0x1#4, 0x0F#8, .SH5⟩,
   ⟨"SRL", 0x1#4, 0x10#8, .SH5⟩,
   ⟨"SRA", 0x1#4, 0x11#8, .SH5⟩,
   ⟨"SLLV", 0x1#4, 0x12#8, .R3⟩,
   ⟨"SRLV", 0x1#4, 0x13#8, .R3⟩,
   ⟨"SRAV", 0x1#4, 0x14#8, .R3⟩,
   ⟨"DSLL", 0x1#4, 0x15#8, .SH6⟩,
   ⟨"DSRL", 0x1#4, 0x16#8, .SH6⟩,
   ⟨"DSRA", 0x1#4, 0x17#8, .SH6⟩,
   ⟨"DSLLV", 0x1#4, 0x18#8, .R3⟩]

/-- Rows of unit 0x1 SA (R118). -/
def asmRowsSA2 : List AsmRow :=
  [⟨"DSRLV", 0x1#4, 0x19#8, .R3⟩,
   ⟨"DSRAV", 0x1#4, 0x1A#8, .R3⟩,
   ⟨"SLT", 0x1#4, 0x1B#8, .R3⟩,
   ⟨"SLTU", 0x1#4, 0x1C#8, .R3⟩,
   ⟨"SLTI", 0x1#4, 0x1D#8, .RI⟩,
   ⟨"SLTIU", 0x1#4, 0x1E#8, .RI⟩,
   ⟨"MOVN", 0x1#4, 0x1F#8, .R3⟩,
   ⟨"MOVZ", 0x1#4, 0x20#8, .R3⟩]

/-- Rows of unit 0x2 SM (R118). -/
def asmRowsSM : List AsmRow :=
  [⟨"LB", 0x2#4, 0x01#8, .M⟩,
   ⟨"LBU", 0x2#4, 0x02#8, .M⟩,
   ⟨"LH", 0x2#4, 0x03#8, .M⟩,
   ⟨"LHU", 0x2#4, 0x04#8, .M⟩,
   ⟨"LW", 0x2#4, 0x05#8, .M⟩,
   ⟨"LD", 0x2#4, 0x06#8, .M⟩,
   ⟨"LQ", 0x2#4, 0x07#8, .M⟩,
   ⟨"LWL", 0x2#4, 0x08#8, .M⟩,
   ⟨"LWR", 0x2#4, 0x09#8, .M⟩,
   ⟨"LDL", 0x2#4, 0x0A#8, .M⟩,
   ⟨"LDR", 0x2#4, 0x0B#8, .M⟩,
   ⟨"SB", 0x2#4, 0x0C#8, .M⟩,
   ⟨"SH", 0x2#4, 0x0D#8, .M⟩,
   ⟨"SW", 0x2#4, 0x0E#8, .M⟩,
   ⟨"SD", 0x2#4, 0x0F#8, .M⟩,
   ⟨"SQ", 0x2#4, 0x10#8, .M⟩,
   ⟨"LWC1", 0x2#4, 0x11#8, .M⟩,
   ⟨"SWC1", 0x2#4, 0x12#8, .M⟩,
   ⟨"LQC2", 0x2#4, 0x13#8, .M⟩,
   ⟨"SQC2", 0x2#4, 0x14#8, .M⟩]

/-- Rows of unit 0x3 MD (R118). -/
def asmRowsMD : List AsmRow :=
  [⟨"MULT", 0x3#4, 0x01#8, .R3⟩,
   ⟨"MULTU", 0x3#4, 0x02#8, .R3⟩,
   ⟨"DIV", 0x3#4, 0x03#8, .RST⟩,
   ⟨"DIVU", 0x3#4, 0x04#8, .RST⟩,
   ⟨"MFHI", 0x3#4, 0x05#8, .RDO⟩,
   ⟨"MFLO", 0x3#4, 0x06#8, .RDO⟩,
   ⟨"MTHI", 0x3#4, 0x07#8, .RSO⟩,
   ⟨"MTLO", 0x3#4, 0x08#8, .RSO⟩,
   ⟨"PMFHI", 0x3#4, 0x09#8, .RDO⟩,
   ⟨"PMFLO", 0x3#4, 0x0A#8, .RDO⟩,
   ⟨"PMTHI", 0x3#4, 0x0B#8, .RSO⟩,
   ⟨"PMTLO", 0x3#4, 0x0C#8, .RSO⟩,
   ⟨"PMULTH", 0x3#4, 0x0D#8, .R3⟩,
   ⟨"PMADDH", 0x3#4, 0x0E#8, .R3⟩]

/-- Rows of unit 0x4 VA (R118). -/
def asmRowsVA : List AsmRow :=
  [⟨"VADD", 0x4#4, 0x01#8, .V3⟩,
   ⟨"VADD_BC", 0x4#4, 0x02#8, .V3B⟩,
   ⟨"VSUB", 0x4#4, 0x03#8, .V3⟩,
   ⟨"VSUB_BC", 0x4#4, 0x04#8, .V3B⟩,
   ⟨"VMUL", 0x4#4, 0x05#8, .V3⟩,
   ⟨"VMUL_BC", 0x4#4, 0x06#8, .V3B⟩,
   ⟨"VMULA", 0x4#4, 0x07#8, .VA⟩,
   ⟨"VMULA_BC", 0x4#4, 0x08#8, .VAB⟩,
   ⟨"VMADDA", 0x4#4, 0x09#8, .VA⟩,
   ⟨"VMADDA_BC", 0x4#4, 0x0A#8, .VAB⟩,
   ⟨"VMSUBA", 0x4#4, 0x0B#8, .VA⟩,
   ⟨"VMSUBA_BC", 0x4#4, 0x0C#8, .VAB⟩,
   ⟨"VMADD", 0x4#4, 0x0D#8, .V3⟩,
   ⟨"VMADD_BC", 0x4#4, 0x0E#8, .V3B⟩,
   ⟨"VMSUB", 0x4#4, 0x0F#8, .V3⟩,
   ⟨"VMSUB_BC", 0x4#4, 0x10#8, .V3B⟩,
   ⟨"VADDQ", 0x4#4, 0x11#8, .V2⟩,
   ⟨"VSUBQ", 0x4#4, 0x12#8, .V2⟩,
   ⟨"VMULQ", 0x4#4, 0x13#8, .V2⟩,
   ⟨"VADDI", 0x4#4, 0x14#8, .V2⟩,
   ⟨"VSUBI", 0x4#4, 0x15#8, .V2⟩,
   ⟨"VMULI", 0x4#4, 0x16#8, .V2⟩]

/-- Rows of unit 0x5 VS (R118). -/
def asmRowsVS : List AsmRow :=
  [⟨"VDIV", 0x5#4, 0x01#8, .VQ⟩,
   ⟨"VSQRT", 0x5#4, 0x02#8, .VQ1⟩,
   ⟨"VRSQRT", 0x5#4, 0x03#8, .VQ⟩,
   ⟨"VRGET", 0x5#4, 0x04#8, .VR⟩,
   ⟨"VRNEXT", 0x5#4, 0x05#8, .VR⟩,
   ⟨"VRXOR", 0x5#4, 0x06#8, .VX⟩,
   ⟨"VITOF0", 0x5#4, 0x07#8, .V2⟩,
   ⟨"VITOF12", 0x5#4, 0x08#8, .V2⟩,
   ⟨"VITOF15", 0x5#4, 0x09#8, .V2⟩,
   ⟨"VFTOI0", 0x5#4, 0x0A#8, .V2⟩,
   ⟨"VFTOI4", 0x5#4, 0x0B#8, .V2⟩,
   ⟨"VFTOI12", 0x5#4, 0x0C#8, .V2⟩]

/-- Rows of unit 0x6 PI (R118). -/
def asmRowsPI1 : List AsmRow :=
  [⟨"PEXTLB", 0x6#4, 0x01#8, .R3⟩,
   ⟨"PEXTLH", 0x6#4, 0x02#8, .R3⟩,
   ⟨"PEXTLW", 0x6#4, 0x03#8, .R3⟩,
   ⟨"PEXTUB", 0x6#4, 0x04#8, .R3⟩,
   ⟨"PEXTUH", 0x6#4, 0x05#8, .R3⟩,
   ⟨"PEXTUW", 0x6#4, 0x06#8, .R3⟩,
   ⟨"PPACB", 0x6#4, 0x07#8, .R3⟩,
   ⟨"PPACH", 0x6#4, 0x08#8, .R3⟩,
   ⟨"PPACW", 0x6#4, 0x09#8, .R3⟩,
   ⟨"PADDB", 0x6#4, 0x0A#8, .R3⟩,
   ⟨"PADDH", 0x6#4, 0x0B#8, .R3⟩,
   ⟨"PADDW", 0x6#4, 0x0C#8, .R3⟩,
   ⟨"PSUBB", 0x6#4, 0x0D#8, .R3⟩,
   ⟨"PSUBH", 0x6#4, 0x0E#8, .R3⟩,
   ⟨"PSUBW", 0x6#4, 0x0F#8, .R3⟩,
   ⟨"PCEQB", 0x6#4, 0x10#8, .R3⟩,
   ⟨"PCEQH", 0x6#4, 0x11#8, .R3⟩,
   ⟨"PCEQW", 0x6#4, 0x12#8, .R3⟩,
   ⟨"PCGTB", 0x6#4, 0x13#8, .R3⟩,
   ⟨"PCGTH", 0x6#4, 0x14#8, .R3⟩,
   ⟨"PCGTW", 0x6#4, 0x15#8, .R3⟩,
   ⟨"PMAXH", 0x6#4, 0x16#8, .R3⟩,
   ⟨"PMAXW", 0x6#4, 0x17#8, .R3⟩,
   ⟨"PMINH", 0x6#4, 0x18#8, .R3⟩]

/-- Rows of unit 0x6 PI (R118). -/
def asmRowsPI2 : List AsmRow :=
  [⟨"PMINW", 0x6#4, 0x19#8, .R3⟩,
   ⟨"PSLLH", 0x6#4, 0x1A#8, .SH4⟩,
   ⟨"PSRLH", 0x6#4, 0x1B#8, .SH4⟩,
   ⟨"PSRAH", 0x6#4, 0x1C#8, .SH4⟩,
   ⟨"PSLLW", 0x6#4, 0x1D#8, .SH5⟩,
   ⟨"PSRLW", 0x6#4, 0x1E#8, .SH5⟩,
   ⟨"PSRAW", 0x6#4, 0x1F#8, .SH5⟩,
   ⟨"PLZCW", 0x6#4, 0x20#8, .R2B⟩]

/-- Rows of unit 0x7 DM (R118). -/
def asmRowsDM : List AsmRow :=
  [⟨"DMA_TOSPR", 0x7#4, 0x01#8, .D⟩,
   ⟨"DMA_FROMSPR", 0x7#4, 0x02#8, .D⟩,
   ⟨"DMA_TOSPR_IL", 0x7#4, 0x03#8, .D⟩,
   ⟨"DMA_FROMSPR_IL", 0x7#4, 0x04#8, .D⟩]

/-- Rows of unit 0x8 NC (R118). -/
def asmRowsNC : List AsmRow :=
  [⟨"NCALL", 0x8#4, 0x01#8, .N⟩]

/-- All 144 rows. -/
def asmRows : List AsmRow :=
  asmRowsRF ++ asmRowsSA1 ++ asmRowsSA2 ++ asmRowsSM ++ asmRowsMD ++ asmRowsVA ++ asmRowsVS ++ asmRowsPI1 ++ asmRowsPI2 ++ asmRowsDM ++ asmRowsNC

/-- The written operands of a format, in order (R122). -/
def Format.operands : Format → List OperandForm
  | .Z => []
  | .C => [.context]
  | .R3 => [.general .a, .general .b, .general .c]
  | .R2B => [.general .a, .general .b]
  | .RDO => [.general .a]
  | .RSO => [.general .b]
  | .RST => [.general .b, .general .c]
  | .RI => [.general .a, .general .b, .imm]
  | .LI => [.general .a, .imm]
  | .SH4 => [.general .a, .general .c, .amount 16]
  | .SH5 => [.general .a, .general .c, .amount 32]
  | .SH6 => [.general .a, .general .c, .amount 64]
  | .M => [.general .a, .memory]
  | .V3 => [.vector .a, .vector .b, .vector .c]
  | .V3B => [.vector .a, .vector .b, .vector .c]
  | .VA => [.vector .b, .vector .c]
  | .VAB => [.vector .b, .vector .c]
  | .V2 => [.vector .a, .vector .b]
  | .VQ => [.q, .firstLane .b, .secondLane .c]
  | .VQ1 => [.q, .secondLane .c]
  | .VR => [.vector .a]
  | .VX => [.firstLane .b]
  | .D => [.general .a, .general .b, .general .c]
  | .N => [.general .b]

/-- The same for one row: the moves between files and the float and vector loads and stores name other files (R112). -/
def AsmRow.operands (r : AsmRow) : List OperandForm :=
  match r.mnemonic with
  | "MFC1" => [.general .a, .float .b]
  | "MTC1" => [.float .a, .general .b]
  | "QMFC2" => [.general .a, .vector .b]
  | "QMTC2" => [.vector .a, .general .b]
  | "LWC1" => [.float .a, .memory]
  | "SWC1" => [.float .a, .memory]
  | "LQC2" => [.vector .a, .memory]
  | "SQC2" => [.vector .a, .memory]
  | _ => r.format.operands

/-- The formats with a destination mask (R112). -/
def Format.masked (f : Format) : Bool := [.V3, .V3B, .VA, .VAB, .V2, .VR].contains f

/-- The formats with a broadcast lane (R112). -/
def Format.broadcast (f : Format) : Bool := [.V3B, .VAB].contains f

/-- The names of r0 to r31 (10_state.md R22). -/
def generalAliases : List String :=
  ["zero", "at", "v0", "v1", "a0", "a1", "a2", "a3", "t0", "t1", "t2", "t3", "t4", "t5", "t6", "t7"] ++
  ["s0", "s1", "s2", "s3", "s4", "s5", "s6", "s7", "t8", "t9", "k0", "k1", "gp", "sp", "fp", "ra"]

/-- The value of a digit in base 16. -/
def digit (c : Char) : Option Nat :=
  if '0' ≤ c ∧ c ≤ '9' then some (c.toNat - '0'.toNat)
  else if 'a' ≤ c ∧ c ≤ 'f' then some (c.toNat - 'a'.toNat + 10)
  else if 'A' ≤ c ∧ c ≤ 'F' then some (c.toNat - 'A'.toNat + 10)
  else none

/-- Digits of a base read onto `acc`. -/
def readDigits (base : Nat) : List Char → Nat → Option Nat
  | [], acc => some acc
  | c :: cs, acc =>
    match digit c with
    | none => none
    | some d => if d < base then readDigits base cs (acc * base + d) else none

/-- A number: decimal or `0x` hex (R122). -/
def readNat : List Char → Option Nat
  | [] => none
  | ['0', 'x'] => none
  | '0' :: 'x' :: cs => readDigits 16 cs 0
  | cs => readDigits 10 cs 0

/-- An immediate, possibly negative, as the 16 bits it has (R124). -/
def readImm : List Char → Option (BitVec 16)
  | '-' :: cs =>
    match readNat cs with
    | none => none
    | some n => if n ≤ 2 ^ 15 then some (BitVec.ofInt 16 (-(n : Int))) else none
  | cs =>
    match readNat cs with
    | none => none
    | some n => if n < 2 ^ 16 then some (BitVec.ofNat 16 n) else none

/-- A register number below 32. -/
def readIndex (cs : List Char) : Option (BitVec 5) :=
  match cs with
  | [] => none
  | _ =>
    match readDigits 10 cs 0 with
    | none => none
    | some n => if n < 32 then some (BitVec.ofNat 5 n) else none

/-- A general register. -/
def readGeneral (cs : List Char) : Option (BitVec 5) :=
  match (generalAliases.map String.toList).idxOf? cs with
  | some n => some (BitVec.ofNat 5 n)
  | none =>
    match cs with
    | 'r' :: rest => readIndex rest
    | _ => none

/-- A scalar float register. -/
def readFloat : List Char → Option (BitVec 5)
  | 'f' :: rest => readIndex rest
  | _ => none

/-- A vector register. -/
def readVector : List Char → Option (BitVec 5)
  | 'v' :: 'f' :: rest => readIndex rest
  | _ => none

/-- A lane letter. -/
def readLane : List Char → Option (BitVec 2)
  | ['x'] => some 0
  | ['y'] => some 1
  | ['z'] => some 2
  | ['w'] => some 3
  | _ => none

/-- A mask: `none`, or a non-empty subsequence of `xyzw` in that order (R122). -/
def readMask (cs : List Char) : Option Mask :=
  if cs = "none".toList then some 0
  else if cs ≠ [] ∧ ['x', 'y', 'z', 'w'].filter (fun c => cs.contains c) = cs then
    some (BitVec.ofNat 4 ((if cs.contains 'x' then 1 else 0) + (if cs.contains 'y' then 2 else 0) +
      (if cs.contains 'z' then 4 else 0) + (if cs.contains 'w' then 8 else 0)))
  else none

/-- A context number. -/
def readContext : List Char → Option (BitVec 4)
  | '@' :: c :: cs =>
    match readDigits 10 (c :: cs) 0 with
    | none => none
    | some n => if n < 16 then some (BitVec.ofNat 4 n) else none
  | _ => none

/-- The text up to a character, and the text after it if it occurs. -/
def cutAt (c : Char) : List Char → List Char × Option (List Char)
  | [] => ([], none)
  | d :: cs => if d = c then ([], some cs) else (d :: (cutAt c cs).1, (cutAt c cs).2)

/-- The pieces between the characters that separate. -/
def pieces (sep : Char → Bool) : List Char → List (List Char)
  | [] => [[]]
  | d :: cs =>
    match pieces sep cs with
    | [] => [[d]]
    | p :: ps => if sep d then [] :: p :: ps else (d :: p) :: ps

/-- A register number put into a slot. -/
def Fields.putSlot (f : Fields) (s : Slot) (r : BitVec 5) : Fields :=
  match s with
  | .a => { f with a := r }
  | .b => { f with b := r }
  | .c => { f with c := r }

/-- One written operand put into the fields. -/
def readOperand (o : OperandForm) (cs : List Char) (f : Fields) : Option Fields :=
  match o with
  | .general s => (readGeneral cs).map (f.putSlot s)
  | .float s => (readFloat cs).map (f.putSlot s)
  | .vector s => (readVector cs).map (f.putSlot s)
  | .firstLane s =>
    match readVector (cutAt '.' cs).1, readLane ((cutAt '.' cs).2.getD []) with
    | some r, some k => some { f.putSlot s r with fsf := k }
    | _, _ => none
  | .secondLane s =>
    match readVector (cutAt '.' cs).1, readLane ((cutAt '.' cs).2.getD []) with
    | some r, some k => some { f.putSlot s r with ftf := k }
    | _, _ => none
  | .imm => (readImm cs).map (fun v => { f with imm16 := v })
  | .amount bound =>
    match readNat cs with
    | none => none
    | some n => if n < bound then some { f with sa := BitVec.ofNat 6 n } else none
  | .memory =>
    match cutAt '(' cs with
    | (off, some rest) =>
      match cutAt ')' rest with
      | (base, some []) =>
        match readImm off, readGeneral base with
        | some v, some r => some { f with imm16 := v, b := r }
        | _, _ => none
      | _ => none
    | _ => none
  | .q => if cs = ['Q'] then some f else none
  | .context => (readContext cs).map (fun n => { f with a := n.setWidth 5 })

/-- The written operands, as many as the row asks for. -/
def readOperands : List OperandForm → List (List Char) → Fields → Option Fields
  | [], [], f => some f
  | o :: os, t :: ts, f => (readOperand o t f).bind (readOperands os ts)
  | _, _, _ => none

/-- The suffixes of a mnemonic: `.dest` where the format has a mask, then `.bc` where it has a broadcast lane (R122). -/
def readSuffixes (fmt : Format) (sfx : List (List Char)) (f : Fields) : Option Fields :=
  match fmt.masked, fmt.broadcast, sfx with
  | false, _, [] => some f
  | true, false, [m] => (readMask m).map (fun d => { f with dest := d })
  | true, true, [m, l] =>
    match readMask m, readLane l with
    | some d, some k => some { f with dest := d, bc := k }
    | _, _ => none
  | _, _, _ => none

/-- A pseudo-instruction rewritten as the command it stands for (R123). -/
def expandPseudo (mn : List Char) (ops : List (List Char)) : Option (List Char × List (List Char)) :=
  let zero := "r0".toList
  match String.ofList mn, ops with
  | "MOVE", [rd, rs] => some ("OR".toList, [rd, rs, zero])
  | "LI", [rt, imm] =>
    match readImm imm with
    | none => none
    | some v =>
      if imm.head? ≠ some '-' ∧ v.toNat ≥ 2 ^ 15 then none else some ("ADDIU".toList, [rt, zero, imm])
  | "SEXT32", [rd, rt] => some ("SLL".toList, [rd, rt, "0".toList])
  | "NEGU", [rd, rt] => some ("SUBU".toList, [rd, zero, rt])
  | _, _ => some (mn, ops)

/-- The words of a line: the comment dropped, blanks and commas separating. -/
def lineWords (line : List Char) : List (List Char) :=
  (pieces (fun c => c == ' ' || c == ',' || c == '\t') (cutAt ';' line).1).filter (fun p => !p.isEmpty)

/-- A mnemonic, its suffixes and its operands read in a context. -/
def readCommand (ctx : BitVec 4) (words : List (List Char)) : Option Instr :=
  match words with
  | [] => none
  | head :: ops =>
    match pieces (fun c => c == '.') head with
    | [] => none
    | mn :: sfx =>
      match expandPseudo (mn.map Char.toUpper) ops with
      | none => none
      | some (name, args) =>
        match asmRows.find? (fun r => r.mnemonic.toList == name) with
        | none => none
        | some row =>
          match readSuffixes row.format sfx (Fields.base row.unit row.fn ctx.toFin) with
          | none => none
          | some f =>
            match readOperands row.operands args f with
            | none => none
            | some g => (decodeWord 16 g.toWord).toOption

/-- One line of assembler text (R122): an absent `@ctx` means context 0. That the context exists is left to the decoder. -/
def assemble (line : String) : Option Instr :=
  match lineWords line.toList with
  | ('@' :: n) :: rest =>
    match readContext ('@' :: n) with
    | none => none
    | some c => readCommand c rest
  | words => readCommand 0 words

end Sys2Proof
end

