-- ==== Sys2Proof/Machine/Defaults.lean ====
section
/-! DEFINITION. The default bodies the spec offers for open functions (43_scalar_muldiv.md R243, R244; 45_vu_special.md
R311). The machine does not use them: it calls the bodiless constants of Config.lean, as R311 and R243 ask of proofs. -/

namespace Sys2Proof.Machine

/-- Default `IDIV0`, as (LO.d[0], HI.d[0]) (R243, R244). -/
def defaultIdiv0 (signed : Bool) (n d : Word) : Dword × Dword :=
  if signed then
    if d = 0 then (if n.msb then 1 else 0xFFFFFFFFFFFFFFFF#64, n.signExtend 64)
    else (0xFFFFFFFF80000000#64, 0)
  else (0xFFFFFFFFFFFFFFFF#64, n.signExtend 64)

/-- Default `RNG_STEP` (R311). -/
def defaultRngStep (r : Word) : Word :=
  let x := r.extractLsb' 4 1
  let y := r.extractLsb' 22 1
  let r' := r <<< 1 ^^^ (x ^^^ y).setWidth 32
  r' &&& 0x007FFFFF#32 ||| 0x3F800000#32

/-- Default `RNG_MIX` (R311). -/
def defaultRngMix (r v : Word) : Word := 0x3F800000#32 ||| (r ^^^ v) &&& 0x007FFFFF#32

end Sys2Proof.Machine
end

