-- ==== Sys2Proof/Tests/Slice0.lean ====
section
/-! SUPPORT. The model's own tests. Every expected value is from the spec: words from its rules' examples and the vectors of
95_test_vectors.md, whose row each test names. -/

namespace Sys2Proof.Tests

open Sys2Proof.Machine

/-- The state after one step that takes the word; the state itself where the step gives no next state. -/
def ran (w : Dword) (s : State) : State :=
  match step (s.withFetchWord 64 w.toNat) with
  | .next t => t
  | _ => s

/-- Words and the commands the spec writes them for. -/
def decodesAll (l : List (Dword × Instr)) : Bool := l.all (fun p => decide ((decodeWord 4 p.1).toOption = some p.2))

/-! Decoding: every command's word. -/

theorem test_decodes_RF : decodesAll [
    (0x0010000000000000, .nop 0),
    (0x0022000000000000, .ctxinit 2),
    (0x0031180000000000, .vfcopy 1 3),
    (0x0040188000000000, .mfc1 0 3 2),
    (0x0050090000000000, .mtc1 0 1 4),
    (0x0060414000000000, .qmfc2 0 8 5),
    (0x00702A4000000000, .qmtc2 0 5 9)] = true := by decide
theorem test_decodes_SA0 : decodesAll [
    (0x1010184400000000, .addu 0 3 1 2),
    (0x1020184400000000, .subu 0 3 1 2),
    (0x1030184400000000, .daddu 0 3 1 2),
    (0x1040184400000000, .dsubu 0 3 1 2),
    (0x105018400000FFFF, .addiu 0 3 1 0xffff),
    (0x1060184000008000, .daddiu 0 3 1 0x8000),
    (0x1070184400000000, .and 0 3 1 2),
    (0x1080184400000000, .or 0 3 1 2),
    (0x1090184400000000, .xor 0 3 1 2),
    (0x10A0184400000000, .nor 0 3 1 2),
    (0x10B018400000FFFF, .andi 0 3 1 0xffff),
    (0x10C0184000008000, .ori 0 3 1 0x8000),
    (0x10D018400000FFFF, .xori 0 3 1 0xffff),
    (0x10E0180000008000, .lui 0 3 0x8000),
    (0x10F01802001F0000, .sll 0 3 1 31),
    (0x11001802001F0000, .srl 0 3 1 31),
    (0x11101802001F0000, .sra 0 3 1 31),
    (0x1120184400000000, .sllv 0 3 1 2)] = true := by decide
theorem test_decodes_SA1 : decodesAll [
    (0x1130184400000000, .srlv 0 3 1 2),
    (0x1140184400000000, .srav 0 3 1 2),
    (0x11501802003F0000, .dsll 0 3 1 63),
    (0x11601802003F0000, .dsrl 0 3 1 63),
    (0x11701802003F0000, .dsra 0 3 1 63),
    (0x1180184400000000, .dsllv 0 3 1 2),
    (0x1190184400000000, .dsrlv 0 3 1 2),
    (0x11A0184400000000, .dsrav 0 3 1 2),
    (0x11B0184400000000, .slt 0 3 1 2),
    (0x11C0184400000000, .sltu 0 3 1 2),
    (0x11D018400000FFFF, .slti 0 3 1 0xffff),
    (0x11E018400000FFFF, .sltiu 0 3 1 0xffff),
    (0x11F0184400000000, .movn 0 3 1 2),
    (0x1200184400000000, .movz 0 3 1 2)] = true := by decide
theorem test_decodes_SM0 : decodesAll [
    (0x201010400000FFFF, .lb 0 2 1 0xffff),
    (0x202010000000010F, .lbu 0 2 0 0x10f),
    (0x203010000000010E, .lh 0 2 0 0x10e),
    (0x204010000000010E, .lhu 0 2 0 0x10e),
    (0x2050104000000004, .lw 0 2 1 0x4),
    (0x2060100000000108, .ld 0 2 0 0x108),
    (0x2070104000000000, .lq 0 2 1 0x0),
    (0x2080104000000003, .lwl 0 2 1 0x3),
    (0x2090104000000000, .lwr 0 2 1 0x0),
    (0x20A0100000000100, .ldl 0 2 0 0x100),
    (0x20B0104000000001, .ldr 0 2 1 0x1),
    (0x20C0100000000200, .sb 0 2 0 0x200),
    (0x20D0100000000200, .sh 0 2 0 0x200),
    (0x20E0104000000000, .sw 0 2 1 0x0),
    (0x20F0100000000200, .sd 0 2 0 0x200),
    (0x2100104000000008, .sq 0 2 1 0x8),
    (0x2110180000000104, .lwc1 0 3 0 0x104),
    (0x2120180000000200, .swc1 0 3 0 0x200)] = true := by decide
theorem test_decodes_SM1 : decodesAll [
    (0x2130200000000100, .lqc2 0 4 0 0x100),
    (0x2140200000000200, .sqc2 0 4 0 0x200)] = true := by decide
theorem test_decodes_MD : decodesAll [
    (0x3010184400000000, .mult 0 3 1 2),
    (0x3020184400000000, .multu 0 3 1 2),
    (0x3030004400000000, .div 0 1 2),
    (0x3040004400000000, .divu 0 1 2),
    (0x3050180000000000, .mfhi 0 3),
    (0x3060180000000000, .mflo 0 3),
    (0x3070004000000000, .mthi 0 1),
    (0x3080004000000000, .mtlo 0 1),
    (0x3090180000000000, .pmfhi 0 3),
    (0x30A0180000000000, .pmflo 0 3),
    (0x30B0004000000000, .pmthi 0 1),
    (0x30C0004000000000, .pmtlo 0 1),
    (0x30D0184400000000, .pmulth 0 3 1 2),
    (0x30E0184400000000, .pmaddh 0 3 1 2)] = true := by decide
theorem test_decodes_VA0 : decodesAll [
    (0x40101845E0000000, .vadd 0 3 1 2 0b1111),
    (0x40201845F8000000, .vaddBc 0 3 1 2 0b1111 3),
    (0x40301845E0000000, .vsub 0 3 1 2 0b1111),
    (0x4040188330000000, .vsubBc 0 3 2 1 0b1001 2),
    (0x40501845E0000000, .vmul 0 3 1 2 0b1111),
    (0x40601844E8000000, .vmulBc 0 3 1 2 0b111 1),
    (0x40700045E0000000, .vmula 0 1 2 0b1111),
    (0x40800045E0000000, .vmulaBc 0 1 2 0b1111 0),
    (0x40900045E0000000, .vmadda 0 1 2 0b1111),
    (0x40A00044B8000000, .vmaddaBc 0 1 2 0b101 3),
    (0x40B00045E0000000, .vmsuba 0 1 2 0b1111),
    (0x40C00045E0000000, .vmsubaBc 0 1 2 0b1111 0),
    (0x40D01845E0000000, .vmadd 0 3 1 2 0b1111),
    (0x40E0184470000000, .vmaddBc 0 3 1 2 0b11 2),
    (0x40F01845E0000000, .vmsub 0 3 1 2 0b1111),
    (0x4100184518000000, .vmsubBc 0 3 1 2 0b1000 3),
    (0x41101841E0000000, .vaddq 0 3 1 0b1111),
    (0x4120184060000000, .vsubq 0 3 1 0b11)] = true := by decide
theorem test_decodes_VA1 : decodesAll [
    (0x41301881E0000000, .vmulq 0 3 2 0b1111),
    (0x41401841E0000000, .vaddi 0 3 1 0b1111),
    (0x4150184180000000, .vsubi 0 3 1 0b1100),
    (0x41601881E0000000, .vmuli 0 3 2 0b1111)] = true := by decide
theorem test_decodes_VS : decodesAll [
    (0x5010004402000000, .vdiv 0 1 2 1 0),
    (0x5020000401800000, .vsqrt 0 2 3),
    (0x5030004806000000, .vrsqrt 0 1 4 3 0),
    (0x50401801E0000000, .vrget 0 3 0b1111),
    (0x50501800A0000000, .vrnext 0 3 0b101),
    (0x5060010002000000, .vrxor 0 4 1),
    (0x50701841E0000000, .vitof0 0 3 1 0b1111),
    (0x50801841E0000000, .vitof12 0 3 1 0b1111),
    (0x50901841E0000000, .vitof15 0 3 1 0b1111),
    (0x50A01841E0000000, .vftoi0 0 3 1 0b1111),
    (0x50B01841E0000000, .vftoi4 0 3 1 0b1111),
    (0x50C01841E0000000, .vftoi12 0 3 1 0b1111)] = true := by decide
theorem test_decodes_PI0 : decodesAll [
    (0x6010184400000000, .pextlb 0 3 1 2),
    (0x6020184400000000, .pextlh 0 3 1 2),
    (0x6030184400000000, .pextlw 0 3 1 2),
    (0x6040184400000000, .pextub 0 3 1 2),
    (0x6050184400000000, .pextuh 0 3 1 2),
    (0x6060184400000000, .pextuw 0 3 1 2),
    (0x6070184400000000, .ppacb 0 3 1 2),
    (0x6080184400000000, .ppach 0 3 1 2),
    (0x6090184400000000, .ppacw 0 3 1 2),
    (0x60A0184400000000, .paddb 0 3 1 2),
    (0x60B0184400000000, .paddh 0 3 1 2),
    (0x60C0184400000000, .paddw 0 3 1 2),
    (0x60D0184400000000, .psubb 0 3 1 2),
    (0x60E0184400000000, .psubh 0 3 1 2),
    (0x60F0184400000000, .psubw 0 3 1 2),
    (0x6100184400000000, .pceqb 0 3 1 2),
    (0x6110184400000000, .pceqh 0 3 1 2),
    (0x6120184400000000, .pceqw 0 3 1 2)] = true := by decide
theorem test_decodes_PI1 : decodesAll [
    (0x6130184400000000, .pcgtb 0 3 1 2),
    (0x6140184400000000, .pcgth 0 3 1 2),
    (0x6150184400000000, .pcgtw 0 3 1 2),
    (0x6160184400000000, .pmaxh 0 3 1 2),
    (0x6170184400000000, .pmaxw 0 3 1 2),
    (0x6180184400000000, .pminh 0 3 1 2),
    (0x6190184400000000, .pminw 0 3 1 2),
    (0x61A0180400010000, .psllh 0 3 2 1),
    (0x61B0180400010000, .psrlh 0 3 2 1),
    (0x61C0180400010000, .psrah 0 3 2 1),
    (0x61D0180400010000, .psllw 0 3 2 1),
    (0x61E0180400100000, .psrlw 0 3 2 16),
    (0x61F0180400100000, .psraw 0 3 2 16),
    (0x6200184000000000, .plzcw 0 3 1)] = true := by decide
theorem test_decodes_DM : decodesAll [
    (0x7010310A00000000, .dmaTospr 0 6 4 5),
    (0x7020310A00000000, .dmaFromspr 0 6 4 5),
    (0x7030310A00000000, .dmaTosprIl 0 6 4 5),
    (0x7040310A00000000, .dmaFromsprIl 0 6 4 5)] = true := by decide
theorem test_decodes_NC : decodesAll [
    (0x8010064000000000, .ncall 0 25)] = true := by decide

/-! One step of each command, against the vector named. -/

theorem test_nop : (ran 0x0010000000000000 (State.reset |>.setX 0 5 0x1234)).xd 0 5 = 0x1234 := by decide -- RF1
theorem test_mfc1 : -- RF3
    (ran 0x0040188000000000 (State.reset |>.setF 0 2 0xBF800000
      |>.setX 0 3 0x770000000000000001)).x 0 3 = 0x77FFFFFFFFBF800000 := by decide
theorem test_mtc1 : -- RF6
    (ran 0x0050090000000000 (State.reset |>.setX 0 4 0xAAAAAAAA40490FDB
      |>.setF 0 1 0x0)).f 0 1 = 0x40490FDB := by decide
theorem test_qmfc2 : -- RF8
    (ran 0x0060400000000000 (State.reset
      |>.setX 0 8 0xFFFFFFFFFFFFFFFFFFFFFFFFFFFFFFFF)).x 0 8 = 0x3F800000000000000000000000000000 := by decide
theorem test_qmtc2 : -- RF10
    (ran 0x00702A4000000000 (State.reset
      |>.setX 0 9 0x4000000030000000200000001)).vf 0 5 = 0x4000000030000000200000001 := by decide
theorem test_addu : -- SA2
    (ran 0x1010184400000000 (State.reset |>.setX 0 1 0x100000005 |>.setX 0 2 0xFFFFFFFF00000003
      |>.setX 0 3 0x990000000000000000)).x 0 3 = 0x990000000000000008 := by decide
theorem test_subu : -- SA6
    (ran 0x1020184400000000 (State.reset |>.setX 0 1 0xFFFFFFFF80000000
      |>.setX 0 2 0x1)).xd 0 3 = 0x7FFFFFFF := by decide
theorem test_daddu : -- SA7
    (ran 0x1030184400000000 (State.reset |>.setX 0 1 0xFFFFFFFFFFFFFFFF |>.setX 0 2 0x1)).xd 0 3 = 0x0 := by decide
theorem test_dsubu : -- SA9
    (ran 0x1040184400000000 (State.reset |>.setX 0 1 0x0 |>.setX 0 2 0x1)).xd 0 3 = 0xFFFFFFFFFFFFFFFF := by decide
theorem test_addiu : -- SA11
    (ran 0x105018400000FFFF (State.reset |>.setX 0 1 0x0)).xd 0 3 = 0xFFFFFFFFFFFFFFFF := by decide
theorem test_daddiu : (ran 0x1060184000008000 (State.reset |>.setX 0 1 0x8000)).xd 0 3 = 0x0 := by decide -- SA14
theorem test_and : -- SA16
    (ran 0x1070184400000000 (State.reset |>.setX 0 1 0xFF00FF00FF00FF00
      |>.setX 0 2 0xFF00FF00FF00FF0)).xd 0 3 = 0xF000F000F000F00 := by decide
theorem test_or : -- SA17
    (ran 0x1080184400000000 (State.reset |>.setX 0 1 0xFF00FF00FF00FF00
      |>.setX 0 2 0xFF00FF00FF00FF0)).xd 0 3 = 0xFFF0FFF0FFF0FFF0 := by decide
theorem test_xor : -- SA18
    (ran 0x1090184400000000 (State.reset |>.setX 0 1 0xFF00FF00FF00FF00
      |>.setX 0 2 0xFF00FF00FF00FF0)).xd 0 3 = 0xF0F0F0F0F0F0F0F0 := by decide
theorem test_nor : -- SA19
    (ran 0x10A0184400000000 (State.reset |>.setX 0 1 0xFF00FF00FF00FF00
      |>.setX 0 2 0xFF00FF00FF00FF0)).xd 0 3 = 0xF000F000F000F := by decide
theorem test_andi : -- SA22
    (ran 0x10B018400000FFFF (State.reset |>.setX 0 1 0x123456789ABCDEF0)).xd 0 3 = 0xDEF0 := by decide
theorem test_ori : -- SA23
    (ran 0x10C0184000008000 (State.reset |>.setX 0 1 0xFFFFFFFF00000000)).xd 0 3 = 0xFFFFFFFF00008000 := by decide
theorem test_xori : -- SA24
    (ran 0x10D018400000FFFF (State.reset |>.setX 0 1 0xFFFFFFFFFFFFFFFF)).xd 0 3 = 0xFFFFFFFFFFFF0000 := by decide
theorem test_lui : (ran 0x10E0180000008000 State.reset).xd 0 3 = 0xFFFFFFFF80000000 := by decide -- SA25
theorem test_sll : -- SA28
    (ran 0x10F0180200000000 (State.reset |>.setX 0 1 0x1234567880000000)).xd 0 3 = 0xFFFFFFFF80000000 := by decide
theorem test_srl : -- SA31
    (ran 0x1100180200000000 (State.reset |>.setX 0 1 0x80000000)).xd 0 3 = 0xFFFFFFFF80000000 := by decide
theorem test_sra : -- SA34
    (ran 0x1110180200010000 (State.reset |>.setX 0 1 0x80000000)).xd 0 3 = 0xFFFFFFFFC0000000 := by decide
theorem test_sllv : -- SA37
    (ran 0x1120184400000000 (State.reset |>.setX 0 1 0x21
      |>.setX 0 2 0x40000001)).xd 0 3 = 0xFFFFFFFF80000002 := by decide
theorem test_srlv : -- SA38
    (ran 0x1130184400000000 (State.reset |>.setX 0 1 0xFFFFFFE4 |>.setX 0 2 0x80000000)).xd 0 3 = 0x8000000 := by decide
theorem test_srav : -- SA39
    (ran 0x1140184400000000 (State.reset |>.setX 0 1 0x20
      |>.setX 0 2 0x80000000)).xd 0 3 = 0xFFFFFFFF80000000 := by decide
theorem test_dsll : -- SA41
    (ran 0x11501802003F0000 (State.reset |>.setX 0 1 0x3)).xd 0 3 = 0x8000000000000000 := by decide
theorem test_dsrl : -- SA43
    (ran 0x11601802003F0000 (State.reset |>.setX 0 1 0x8000000000000000)).xd 0 3 = 0x1 := by decide
theorem test_dsra : -- SA45
    (ran 0x11701802003F0000 (State.reset |>.setX 0 1 0x8000000000000000)).xd 0 3 = 0xFFFFFFFFFFFFFFFF := by decide
theorem test_dsllv : -- SA47
    (ran 0x1180184400000000 (State.reset |>.setX 0 1 0x41
      |>.setX 0 2 0x4000000000000001)).xd 0 3 = 0x8000000000000002 := by decide
theorem test_dsrlv : -- SA48
    (ran 0x1190184400000000 (State.reset |>.setX 0 1 0x7F |>.setX 0 2 0x8000000000000000)).xd 0 3 = 0x1 := by decide
theorem test_dsrav : -- SA49
    (ran 0x11A0184400000000 (State.reset |>.setX 0 1 0x40
      |>.setX 0 2 0x8000000000000000)).xd 0 3 = 0x8000000000000000 := by decide
theorem test_slt : -- SA51
    (ran 0x11B0184400000000 (State.reset |>.setX 0 1 0xFFFFFFFFFFFFFFFF |>.setX 0 2 0x1)).xd 0 3 = 0x1 := by decide
theorem test_sltu : -- SA54
    (ran 0x11C0184400000000 (State.reset |>.setX 0 1 0xFFFFFFFFFFFFFFFF |>.setX 0 2 0x1)).xd 0 3 = 0x0 := by decide
theorem test_slti : -- SA56
    (ran 0x11D018400000FFFF (State.reset |>.setX 0 1 0xFFFFFFFFFFFFFFFE)).xd 0 3 = 0x1 := by decide
theorem test_sltiu : (ran 0x11E018400000FFFF (State.reset |>.setX 0 1 0x5)).xd 0 3 = 0x1 := by decide -- SA58
theorem test_movn : -- SA61
    (ran 0x11F0184400000000 (State.reset |>.setX 0 1 0x1111 |>.setX 0 2 0x100000000
      |>.setX 0 3 0x3333)).xd 0 3 = 0x1111 := by decide
theorem test_movz : -- SA63
    (ran 0x1200184400000000 (State.reset |>.setX 0 1 0x1111 |>.setX 0 2 0x0
      |>.setX 0 3 0x440000000000003333)).x 0 3 = 0x440000000000001111 := by decide
theorem test_lb : -- SM1
    (ran 0x201010000000010F (State.reset
      |>.memWrite 0x100 16 0x80FFEEDDCCBBAA998877665544332211)).xd 0 2 = 0xFFFFFFFFFFFFFF80 := by decide
theorem test_lbu : -- SM3
    (ran 0x202010000000010F (State.reset
      |>.memWrite 0x100 16 0x80FFEEDDCCBBAA998877665544332211)).xd 0 2 = 0x80 := by decide
theorem test_lh : -- SM4
    (ran 0x203010000000010E (State.reset
      |>.memWrite 0x100 16 0x80FFEEDDCCBBAA998877665544332211)).xd 0 2 = 0xFFFFFFFFFFFF80FF := by decide
theorem test_lhu : -- SM6
    (ran 0x204010000000010E (State.reset
      |>.memWrite 0x100 16 0x80FFEEDDCCBBAA998877665544332211)).xd 0 2 = 0x80FF := by decide
theorem test_lw : -- SM7
    (ran 0x2050100000000108 (State.reset |>.memWrite 0x100 16 0x80FFEEDDCCBBAA998877665544332211
      |>.setX 0 2 0x5AFFFFFFFFFFFFFFFF)).x 0 2 = 0x5AFFFFFFFFCCBBAA99 := by decide
theorem test_ld : -- SM9
    (ran 0x2060100000000108 (State.reset |>.memWrite 0x100 16 0x80FFEEDDCCBBAA998877665544332211
      |>.setX 0 2 0x5A0000000000000000)).x 0 2 = 0x5A80FFEEDDCCBBAA99 := by decide
theorem test_lq : -- SM10
    (ran 0x2070100000000100 (State.reset
      |>.memWrite 0x100 16 0x80FFEEDDCCBBAA998877665544332211)).x 0 2 = 0x80FFEEDDCCBBAA998877665544332211 := by decide
theorem test_lwl : -- SU2
    (ran 0x2080100000000101 (State.reset |>.memWrite 0x100 8 0x8877665544332211
      |>.setX 0 2 0x5AAAAAAAAABBBBBBBB)).xd 0 2 = 0x2211BBBB := by decide
theorem test_lwr : -- SU6
    (ran 0x2090100000000101 (State.reset |>.memWrite 0x100 8 0x8877665544332211
      |>.setX 0 2 0x5AAAAAAAAABBBBBBBB)).xd 0 2 = 0xAAAAAAAABB443322 := by decide
theorem test_ldl : -- SU16
    (ran 0x20A0100000000103 (State.reset |>.memWrite 0x100 8 0x8877665544332211
      |>.setX 0 2 0x5AA1A2A3A4A5A6A7A8)).xd 0 2 = 0x44332211A5A6A7A8 := by decide
theorem test_ldr : -- SU24
    (ran 0x20B0100000000103 (State.reset |>.memWrite 0x100 8 0x8877665544332211
      |>.setX 0 2 0x5AA1A2A3A4A5A6A7A8)).xd 0 2 = 0xA1A2A38877665544 := by decide
theorem test_sb : -- SM14
    (ran 0x20C0100000000200 (State.reset
      |>.setX 0 2 0xFEDCBA98765432108899AABBCCDDEEFF)).memRead 0x200 2 = 0x00FF := by decide
theorem test_sh : -- SM15
    (ran 0x20D0100000000200 (State.reset
      |>.setX 0 2 0xFEDCBA98765432108899AABBCCDDEEFF)).memRead 0x200 4 = 0x0000EEFF := by decide
theorem test_sw : -- SM16
    (ran 0x20E0100000000200 (State.reset
      |>.setX 0 2 0xFEDCBA98765432108899AABBCCDDEEFF)).memRead 0x200 8 = 0x00000000CCDDEEFF := by decide
theorem test_sd : -- SM17
    (ran 0x20F0100000000200 (State.reset
      |>.setX 0 2 0xFEDCBA98765432108899AABBCCDDEEFF)).memRead 0x200 16 = 0x00000000000000008899AABBCCDDEEFF := by decide
theorem test_sq : -- SM18
    (ran 0x2100100000000200 (State.reset
      |>.setX 0 2 0xFEDCBA98765432108899AABBCCDDEEFF)).memRead 0x200 16 = 0xFEDCBA98765432108899AABBCCDDEEFF := by decide
theorem test_lwc1 : -- SM21
    (ran 0x2110180000000104 (State.reset
      |>.memWrite 0x100 16 0x80FFEEDDCCBBAA998877665544332211)).f 0 3 = 0x88776655 := by decide
theorem test_swc1 : -- SM22
    (ran 0x2120180000000200 (State.reset |>.setF 0 3 0xC0490FDB)).memRead 0x200 4 = 0xC0490FDB := by decide
theorem test_lqc2 : -- SM23
    (ran 0x2130200000000100 (State.reset
      |>.memWrite 0x100 16 0x80FFEEDDCCBBAA998877665544332211)).vf 0 4 = 0x80FFEEDDCCBBAA998877665544332211 := by decide
theorem test_sqc2 : -- SM25
    (ran 0x2140200000000200 (State.reset
      |>.setVf 0 4 0x4080000040400000400000003F800000)).memRead 0x200 16 = 0x4080000040400000400000003F800000 := by decide
theorem test_mult : -- MD1
    let t := ran 0x3010184400000000 (State.reset |>.setHi 0 0xFFFFFFFFFFFFFFFFFFFFFFFFFFFFFFFF
      |>.setLo 0 0xFFFFFFFFFFFFFFFFFFFFFFFFFFFFFFFF |>.setX 0 1 0xFFFFFFFE |>.setX 0 2 0x3)
    t.xd 0 3 = 0xFFFFFFFFFFFFFFFA ∧ t.hi 0 = 0xFFFFFFFFFFFFFFFFFFFFFFFFFFFFFFFF
      ∧ t.lo 0 = 0xFFFFFFFFFFFFFFFFFFFFFFFFFFFFFFFA := by decide
theorem test_multu : -- MD6
    let t := ran 0x3020184400000000 (State.reset |>.setX 0 1 0xFFFFFFFE |>.setX 0 2 0x3)
    t.xd 0 3 = 0xFFFFFFFFFFFFFFFA ∧ d0 (t.hi 0) = 0x2 ∧ d0 (t.lo 0) = 0xFFFFFFFFFFFFFFFA := by decide
theorem test_div : -- MD10
    let t := ran 0x3030004400000000 (State.reset |>.setX 0 1 0xFFFFFFF9 |>.setX 0 2 0xFFFFFFFE)
    d0 (t.hi 0) = 0xFFFFFFFFFFFFFFFF ∧ d0 (t.lo 0) = 0x3 := by decide
theorem test_divu : -- MD15
    let t := ran 0x3040004400000000 (State.reset |>.setX 0 1 0xFFFFFFF9 |>.setX 0 2 0x2)
    d0 (t.hi 0) = 0x1 ∧ d0 (t.lo 0) = 0x7FFFFFFC := by decide
theorem test_mfhi : -- MD18
    (ran 0x3050180000000000 (State.reset |>.setHi 0 0x44000000330000002200000011
      |>.setLo 0 0x88000000770000006600000055
      |>.setX 0 3 0xFFFFFFFFFFFFFFFFFFFFFFFFFFFFFFFF)).x 0 3 = 0xFFFFFFFFFFFFFFFF0000002200000011 := by decide
theorem test_mflo : -- MD19
    (ran 0x3060180000000000 (State.reset |>.setHi 0 0x44000000330000002200000011
      |>.setLo 0 0x88000000770000006600000055
      |>.setX 0 3 0xFFFFFFFFFFFFFFFFFFFFFFFFFFFFFFFF)).x 0 3 = 0xFFFFFFFFFFFFFFFF0000006600000055 := by decide
theorem test_mthi : -- MD20
    (ran 0x3070004000000000 (State.reset |>.setHi 0 0x44000000330000002200000011
      |>.setLo 0 0x88000000770000006600000055
      |>.setX 0 1 0x99DEADBEEF00C0FFEE)).hi 0 = 0x4400000033DEADBEEF00C0FFEE := by decide
theorem test_mtlo : -- MD21
    (ran 0x3080004000000000 (State.reset |>.setHi 0 0x44000000330000002200000011
      |>.setLo 0 0x88000000770000006600000055
      |>.setX 0 1 0x99DEADBEEF00C0FFEE)).lo 0 = 0x8800000077DEADBEEF00C0FFEE := by decide
theorem test_pmfhi : -- MD22
    (ran 0x3090180000000000 (State.reset |>.setHi 0 0x44000000330000002200000011
      |>.setLo 0 0x88000000770000006600000055)).x 0 3 = 0x44000000330000002200000011 := by decide
theorem test_pmflo : -- MD23
    (ran 0x30A0180000000000 (State.reset |>.setHi 0 0x44000000330000002200000011
      |>.setLo 0 0x88000000770000006600000055)).x 0 3 = 0x88000000770000006600000055 := by decide
theorem test_pmthi : -- MD24
    (ran 0x30B0004000000000 (State.reset |>.setHi 0 0x44000000330000002200000011
      |>.setLo 0 0x88000000770000006600000055
      |>.setX 0 1 0x99DEADBEEF00C0FFEE)).hi 0 = 0x99DEADBEEF00C0FFEE := by decide
theorem test_pmtlo : -- MD25
    (ran 0x30C0004000000000 (State.reset |>.setHi 0 0x44000000330000002200000011
      |>.setLo 0 0x88000000770000006600000055
      |>.setX 0 1 0x99DEADBEEF00C0FFEE)).lo 0 = 0x99DEADBEEF00C0FFEE := by decide
theorem test_pmulth : -- MD26
    let t := ran 0x30D0184400000000 (State.reset |>.setX 0 1 0x80007000600050004000300020001
      |>.setX 0 2 0xFFFF80007FFFFFD8001EFFEC000A)
    t.x 0 3 = 0xFFFFFFF900027FFB0000005A0000000A ∧ t.hi 0 = 0xFFFFFFF9FFFFFF600000005A
      ∧ t.lo 0 = 0xFFFD000000027FFBFFFFFFD80000000A := by decide
theorem test_pmaddh : -- MD29
    let t := ran 0x30E0184400000000 (State.reset |>.setX 0 1 0x80007000600050004000300020001
      |>.setX 0 2 0xFFFF80007FFFFFD8001EFFEC000A |>.setHi 0 0x1900000012C000000C800000064
      |>.setLo 0 0xFA000000BB8000007D0000003E8)
    t.x 0 3 = 0x12500028BB3000000BE000003F2 ∧ t.hi 0 = 0x1900000012500000028000000BE
      ∧ t.lo 0 = 0xFFFD0FA000028BB3000007A8000003F2 := by decide
theorem test_vadd : -- VA2
    (ran 0x40101844A0000000 (State.reset |>.setVf 0 1 0x4080000040400000400000003F800000
      |>.setVf 0 2 0x4220000041F0000041A0000041200000 |>.setVf 0 3 0x41100000411000004110000041100000
      |>.setAcc 0 0x43C80000439600004348000042C80000 |>.setQ 0 0x3F000000
      |>.setI 0 0xC0000000)).vf 0 3 = 0x41100000420400004110000041300000 := by decide
theorem test_vaddBc : -- VA7
    (ran 0x40201845F8000000 (State.reset |>.setVf 0 1 0x4080000040400000400000003F800000
      |>.setVf 0 2 0x4220000041F0000041A0000041200000 |>.setVf 0 3 0x41100000411000004110000041100000
      |>.setAcc 0 0x43C80000439600004348000042C80000 |>.setQ 0 0x3F000000
      |>.setI 0 0xC0000000)).vf 0 3 = 0x42300000422C00004228000042240000 := by decide
theorem test_vsub : -- VN3
    (ran 0x40301845E0000000 (State.reset |>.setVf 0 1 0x80000000008000007F7FFFFF3F800000
      |>.setVf 0 2 0x3F0000007F7FFFFF33800000
      |>.setVf 0 3 0x0)).vf 0 3 = 0x80000000BF000000000000003F7FFFFF := by decide
theorem test_vsubBc : -- VA12
    (ran 0x4040188330000000 (State.reset |>.setVf 0 1 0x4080000040400000400000003F800000
      |>.setVf 0 2 0x4220000041F0000041A0000041200000 |>.setVf 0 3 0x41100000411000004110000041100000
      |>.setAcc 0 0x43C80000439600004348000042C80000 |>.setQ 0 0x3F000000
      |>.setI 0 0xC0000000)).vf 0 3 = 0x42140000411000004110000040E00000 := by decide
theorem test_vmul : -- VN2
    (ran 0x40501845E0000000 (State.reset |>.setVf 0 1 0x80000000008000007F7FFFFF3F800000
      |>.setVf 0 2 0x3F0000007F7FFFFF33800000
      |>.setVf 0 3 0x0)).vf 0 3 = 0x80000000004000007F80000033800000 := by decide +kernel
theorem test_vmulBc : -- VA14
    (ran 0x40601844E8000000 (State.reset |>.setVf 0 1 0x4080000040400000400000003F800000
      |>.setVf 0 2 0x4220000041F0000041A0000041200000 |>.setVf 0 3 0x41100000411000004110000041100000
      |>.setAcc 0 0x43C80000439600004348000042C80000 |>.setQ 0 0x3F000000
      |>.setI 0 0xC0000000)).vf 0 3 = 0x41100000427000004220000041A00000 := by decide
theorem test_vmula : -- VA15
    (ran 0x40700045E0000000 (State.reset |>.setVf 0 1 0x4080000040400000400000003F800000
      |>.setVf 0 2 0x4220000041F0000041A0000041200000 |>.setVf 0 3 0x41100000411000004110000041100000
      |>.setAcc 0 0x43C80000439600004348000042C80000 |>.setQ 0 0x3F000000
      |>.setI 0 0xC0000000)).acc 0 = 0x4320000042B400004220000041200000 := by decide
theorem test_vmulaBc : -- VA17
    (ran 0x40800045E0000000 (State.reset |>.setVf 0 1 0x4080000040400000400000003F800000
      |>.setVf 0 2 0x4220000041F0000041A0000041200000 |>.setVf 0 3 0x41100000411000004110000041100000
      |>.setAcc 0 0x43C80000439600004348000042C80000 |>.setQ 0 0x3F000000
      |>.setI 0 0xC0000000)).acc 0 = 0x4220000041F0000041A0000041200000 := by decide
theorem test_vmadda : -- VA18
    (ran 0x40900045E0000000 (State.reset |>.setVf 0 1 0x4080000040400000400000003F800000
      |>.setVf 0 2 0x4220000041F0000041A0000041200000 |>.setVf 0 3 0x41100000411000004110000041100000
      |>.setAcc 0 0x43C80000439600004348000042C80000 |>.setQ 0 0x3F000000
      |>.setI 0 0xC0000000)).acc 0 = 0x440C000043C300004370000042DC0000 := by decide
theorem test_vmaddaBc : -- VA19
    (ran 0x40A00044B8000000 (State.reset |>.setVf 0 1 0x4080000040400000400000003F800000
      |>.setVf 0 2 0x4220000041F0000041A0000041200000 |>.setVf 0 3 0x41100000411000004110000041100000
      |>.setAcc 0 0x43C80000439600004348000042C80000 |>.setQ 0 0x3F000000
      |>.setI 0 0xC0000000)).acc 0 = 0x43C8000043D2000043480000430C0000 := by decide
theorem test_vmsuba : -- VA20
    (ran 0x40B00045E0000000 (State.reset |>.setVf 0 1 0x4080000040400000400000003F800000
      |>.setVf 0 2 0x4220000041F0000041A0000041200000 |>.setVf 0 3 0x41100000411000004110000041100000
      |>.setAcc 0 0x43C80000439600004348000042C80000 |>.setQ 0 0x3F000000
      |>.setI 0 0xC0000000)).acc 0 = 0x43700000435200004320000042B40000 := by decide
theorem test_vmsubaBc : -- VA21
    (ran 0x40C00045E0000000 (State.reset |>.setVf 0 1 0x4080000040400000400000003F800000
      |>.setVf 0 2 0x4220000041F0000041A0000041200000 |>.setVf 0 3 0x41100000411000004110000041100000
      |>.setAcc 0 0x43C80000439600004348000042C80000 |>.setQ 0 0x3F000000
      |>.setI 0 0xC0000000)).acc 0 = 0x43B40000438700004334000042B40000 := by decide
theorem test_vmadd : -- VN4
    (ran 0x40D01845E0000000 (State.reset |>.setVf 0 1 0x3F8000004B8000003F8000013F800001
      |>.setVf 0 2 0x330000003F8000003F7FFFFF3F800001 |>.setAcc 0 0x3F8000003F800000BF800000BF800002
      |>.setVf 0 3 0x0)).vf 0 3 = 0x3F8000004B8000000000000000000000 := by decide
theorem test_vmaddBc : -- VA23
    let t := ran 0x40E0184470000000 (State.reset |>.setVf 0 1 0x4080000040400000400000003F800000
      |>.setVf 0 2 0x4220000041F0000041A0000041200000 |>.setVf 0 3 0x41100000411000004110000041100000
      |>.setAcc 0 0x43C80000439600004348000042C80000 |>.setQ 0 0x3F000000 |>.setI 0 0xC0000000)
    t.vf 0 3 = 0x41100000411000004382000043020000 ∧ t.acc 0 = 0x43C80000439600004348000042C80000 := by decide
theorem test_vmsub : -- VA24
    let t := ran 0x40F01845E0000000 (State.reset |>.setVf 0 1 0x4080000040400000400000003F800000
      |>.setVf 0 2 0x4220000041F0000041A0000041200000 |>.setVf 0 3 0x41100000411000004110000041100000
      |>.setAcc 0 0x43C80000439600004348000042C80000 |>.setQ 0 0x3F000000 |>.setI 0 0xC0000000)
    t.vf 0 3 = 0x43700000435200004320000042B40000 ∧ t.acc 0 = 0x43C80000439600004348000042C80000 := by decide
theorem test_vmsubBc : -- VA25
    let t := ran 0x4100184518000000 (State.reset |>.setVf 0 1 0x4080000040400000400000003F800000
      |>.setVf 0 2 0x4220000041F0000041A0000041200000 |>.setVf 0 3 0x41100000411000004110000041100000
      |>.setAcc 0 0x43C80000439600004348000042C80000 |>.setQ 0 0x3F000000 |>.setI 0 0xC0000000)
    t.vf 0 3 = 0x43700000411000004110000041100000 ∧ t.acc 0 = 0x43C80000439600004348000042C80000 := by decide
theorem test_vaddq : -- VA26
    (ran 0x41101841E0000000 (State.reset |>.setVf 0 1 0x4080000040400000400000003F800000
      |>.setVf 0 2 0x4220000041F0000041A0000041200000 |>.setVf 0 3 0x41100000411000004110000041100000
      |>.setAcc 0 0x43C80000439600004348000042C80000 |>.setQ 0 0x3F000000
      |>.setI 0 0xC0000000)).vf 0 3 = 0x4090000040600000402000003FC00000 := by decide
theorem test_vsubq : -- VA27
    (ran 0x4120184060000000 (State.reset |>.setVf 0 1 0x4080000040400000400000003F800000
      |>.setVf 0 2 0x4220000041F0000041A0000041200000 |>.setVf 0 3 0x41100000411000004110000041100000
      |>.setAcc 0 0x43C80000439600004348000042C80000 |>.setQ 0 0x3F000000
      |>.setI 0 0xC0000000)).vf 0 3 = 0x41100000411000003FC000003F000000 := by decide
theorem test_vmulq : -- VA28
    (ran 0x41301881E0000000 (State.reset |>.setVf 0 1 0x4080000040400000400000003F800000
      |>.setVf 0 2 0x4220000041F0000041A0000041200000 |>.setVf 0 3 0x41100000411000004110000041100000
      |>.setAcc 0 0x43C80000439600004348000042C80000 |>.setQ 0 0x3F000000
      |>.setI 0 0xC0000000)).vf 0 3 = 0x41A00000417000004120000040A00000 := by decide
theorem test_vaddi : -- VA29
    (ran 0x41401841E0000000 (State.reset |>.setVf 0 1 0x4080000040400000400000003F800000
      |>.setVf 0 2 0x4220000041F0000041A0000041200000 |>.setVf 0 3 0x41100000411000004110000041100000
      |>.setAcc 0 0x43C80000439600004348000042C80000 |>.setQ 0 0x3F000000
      |>.setI 0 0xC0000000)).vf 0 3 = 0x400000003F80000000000000BF800000 := by decide
theorem test_vsubi : -- VA30
    (ran 0x4150184180000000 (State.reset |>.setVf 0 1 0x4080000040400000400000003F800000
      |>.setVf 0 2 0x4220000041F0000041A0000041200000 |>.setVf 0 3 0x41100000411000004110000041100000
      |>.setAcc 0 0x43C80000439600004348000042C80000 |>.setQ 0 0x3F000000
      |>.setI 0 0xC0000000)).vf 0 3 = 0x40C0000040A000004110000041100000 := by decide
theorem test_vmuli : -- VA31
    (ran 0x41601881E0000000 (State.reset |>.setVf 0 1 0x4080000040400000400000003F800000
      |>.setVf 0 2 0x4220000041F0000041A0000041200000 |>.setVf 0 3 0x41100000411000004110000041100000
      |>.setAcc 0 0x43C80000439600004348000042C80000 |>.setQ 0 0x3F000000
      |>.setI 0 0xC0000000)).vf 0 3 = 0xC2A00000C2700000C2200000C1A00000 := by decide
theorem test_vdiv : -- VS1
    (ran 0x5010004402000000 (State.reset |>.setVf 0 1 0x4080000040400000400000003F800000
      |>.setVf 0 2 0x4220000041F0000041A0000041200000 |>.setVf 0 3 0x41100000411000004110000041100000
      |>.setQ 0 0x3F000000)).q 0 = 0x3E4CCCCD := by decide
theorem test_vsqrt : -- VS5
    (ran 0x5020000401800000 (State.reset |>.setVf 0 1 0x4080000040400000400000003F800000
      |>.setVf 0 2 0x4220000041F0000041A0000041200000 |>.setVf 0 3 0x41100000411000004110000041100000
      |>.setQ 0 0x3F000000)).q 0 = 0x40CA62C2 := by decide
theorem test_vrsqrt : -- VS9
    (ran 0x5030004806000000 (State.reset |>.setVf 0 1 0x4080000040400000400000003F800000
      |>.setVf 0 2 0x4220000041F0000041A0000041200000 |>.setVf 0 3 0x41100000411000004110000041100000
      |>.setQ 0 0x3F000000 |>.setVf 0 4 0xC0800000)).q 0 = 0x40000000 := by decide +kernel
theorem test_vrget : -- VS12
    let t := ran 0x50401801E0000000 (State.reset |>.setVf 0 1 0x4080000040400000400000003F800000
      |>.setVf 0 2 0x4220000041F0000041A0000041200000 |>.setVf 0 3 0x41100000411000004110000041100000
      |>.setQ 0 0x3F000000 |>.setRng 0x3F812345)
    t.vf 0 3 = 0x3F8123453F8123453F8123453F812345 ∧ t.rng = 0x3F812345 := by decide
theorem test_vitof0 : -- VS22
    (ran 0x5070184020000000 (State.reset |>.setVf 0 1 0x1000001
      |>.setVf 0 3 0x41100000411000004110000041100000)).vf 0 3 = 0x4110000041100000411000004B800000 := by decide
theorem test_vitof12 : -- VS20
    (ran 0x50801841E0000000 (State.reset |>.setVf 0 1 0x8000000000001000FFFFFFFF00000001
      |>.setVf 0 3 0x41100000411000004110000041100000)).vf 0 3 = 0xC90000003F800000B980000039800000 := by decide
theorem test_vitof15 : -- VS21
    (ran 0x50901841E0000000 (State.reset |>.setVf 0 1 0x8000000000001000FFFFFFFF00000001
      |>.setVf 0 3 0x41100000411000004110000041100000)).vf 0 3 = 0xC78000003E000000B800000038000000 := by decide
theorem test_vftoi0 : -- VS23
    (ran 0x50A01841E0000000 (State.reset |>.setVf 0 1 0x800000003F7FBE77BFC000003FC00000
      |>.setVf 0 3 0x41100000411000004110000041100000)).vf 0 3 = 0xFFFFFFFF00000001 := by decide
theorem test_vftoi4 : -- VS24
    (ran 0x50B01841E0000000 (State.reset |>.setVf 0 1 0x800000003F7FBE77BFC000003FC00000
      |>.setVf 0 3 0x41100000411000004110000041100000)).vf 0 3 = 0xFFFFFFFE800000018 := by decide
theorem test_vftoi12 : -- VS25
    (ran 0x50C01841E0000000 (State.reset |>.setVf 0 1 0x800000003F7FBE77BFC000003FC00000
      |>.setVf 0 3 0x41100000411000004110000041100000)).vf 0 3 = 0xFFBFFFFE80000001800 := by decide
theorem test_pextlb : -- PP1
    (ran 0x6010184400000000 (State.reset |>.setX 0 1 0xF0E0D0C0B0A09080706050403020100
      |>.setX 0 2 0x1F1E1D1C1B1A19181716151413121110)).x 0 3 = 0x7170616051504140313021201110010 := by decide
theorem test_pextlh : -- PP2
    (ran 0x6020184400000000 (State.reset |>.setX 0 1 0xF0E0D0C0B0A09080706050403020100
      |>.setX 0 2 0x1F1E1D1C1B1A19181716151413121110)).x 0 3 = 0x7061716050415140302131201001110 := by decide
theorem test_pextlw : -- PP3
    (ran 0x6030184400000000 (State.reset |>.setX 0 1 0xF0E0D0C0B0A09080706050403020100
      |>.setX 0 2 0x1F1E1D1C1B1A19181716151413121110)).x 0 3 = 0x7060504171615140302010013121110 := by decide
theorem test_pextub : -- PP4
    (ran 0x6040184400000000 (State.reset |>.setX 0 1 0xF0E0D0C0B0A09080706050403020100
      |>.setX 0 2 0x1F1E1D1C1B1A19181716151413121110)).x 0 3 = 0xF1F0E1E0D1D0C1C0B1B0A1A09190818 := by decide
theorem test_pextuh : -- PP5
    (ran 0x6050184400000000 (State.reset |>.setX 0 1 0xF0E0D0C0B0A09080706050403020100
      |>.setX 0 2 0x1F1E1D1C1B1A19181716151413121110)).x 0 3 = 0xF0E1F1E0D0C1D1C0B0A1B1A09081918 := by decide
theorem test_pextuw : -- PP6
    (ran 0x6060184400000000 (State.reset |>.setX 0 1 0xF0E0D0C0B0A09080706050403020100
      |>.setX 0 2 0x1F1E1D1C1B1A19181716151413121110)).x 0 3 = 0xF0E0D0C1F1E1D1C0B0A09081B1A1918 := by decide
theorem test_ppacb : -- PP7
    (ran 0x6070184400000000 (State.reset |>.setX 0 1 0xF0E0D0C0B0A09080706050403020100
      |>.setX 0 2 0x1F1E1D1C1B1A19181716151413121110)).x 0 3 = 0xE0C0A08060402001E1C1A1816141210 := by decide
theorem test_ppach : -- PP8
    (ran 0x6080184400000000 (State.reset |>.setX 0 1 0xF0E0D0C0B0A09080706050403020100
      |>.setX 0 2 0x1F1E1D1C1B1A19181716151413121110)).x 0 3 = 0xD0C0908050401001D1C191815141110 := by decide
theorem test_ppacw : -- PP9
    (ran 0x6090184400000000 (State.reset |>.setX 0 1 0xF0E0D0C0B0A09080706050403020100
      |>.setX 0 2 0x1F1E1D1C1B1A19181716151413121110)).x 0 3 = 0xB0A0908030201001B1A191813121110 := by decide
theorem test_paddb : -- PA1
    (ran 0x60A0184400000000 (State.reset |>.setX 0 1 0xF010FE0100FF807FF010FE0100FF807F
      |>.setX 0 2 0xF011FF0201FF7F7F10F0FE01FF018001)).x 0 3 = 0xE021FD0301FEFFFE0000FC02FF000080 := by decide
theorem test_paddh : -- PA2
    (ran 0x60B0184400000000 (State.reset |>.setX 0 1 0xF010FE0100FF807FF010FE0100FF807F
      |>.setX 0 2 0xF011FF0201FF7F7F10F0FE01FF018001)).x 0 3 = 0xE021FD0302FEFFFE0100FC0200000080 := by decide
theorem test_paddw : -- PA3
    (ran 0x60C0184400000000 (State.reset |>.setX 0 1 0xF010FE0100FF807FF010FE0100FF807F
      |>.setX 0 2 0xF011FF0201FF7F7F10F0FE01FF018001)).x 0 3 = 0xE022FD0302FEFFFE0101FC0200010080 := by decide
theorem test_psubb : -- PA4
    (ran 0x60D0184400000000 (State.reset |>.setX 0 1 0xF010FE0100FF807FF010FE0100FF807F
      |>.setX 0 2 0xF011FF0201FF7F7F10F0FE01FF018001)).x 0 3 = 0xFFFFFFFF000100E020000001FE007E := by decide
theorem test_psubh : -- PA5
    (ran 0x60E0184400000000 (State.reset |>.setX 0 1 0xF010FE0100FF807FF010FE0100FF807F
      |>.setX 0 2 0xF011FF0201FF7F7F10F0FE01FF018001)).x 0 3 = 0xFFFFFEFFFF000100DF20000001FE007E := by decide
theorem test_psubw : -- PA6
    (ran 0x60F0184400000000 (State.reset |>.setX 0 1 0xF010FE0100FF807FF010FE0100FF807F
      |>.setX 0 2 0xF011FF0201FF7F7F10F0FE01FF018001)).x 0 3 = 0xFFFEFEFFFF000100DF20000001FE007E := by decide
theorem test_pceqb : -- PA7
    (ran 0x6100184400000000 (State.reset |>.setX 0 1 0xF010FE0100FF807FF010FE0100FF807F
      |>.setX 0 2 0xF011FF0201FF7F7F10F0FE01FF018001)).x 0 3 = 0xFF00000000FF00FF0000FFFF0000FF00 := by decide
theorem test_pceqh : -- PA8
    (ran 0x6110184400000000 (State.reset |>.setX 0 1 0xF010FE0100FF807FF010FE0100FF807F
      |>.setX 0 2 0xF011FF0201FF7F7F10F0FE01FF018001)).x 0 3 = 0xFFFF00000000 := by decide
theorem test_pceqw : -- PA9
    (ran 0x6120184400000000 (State.reset |>.setX 0 1 0xF010FE0100FF807FF010FE0100FF807F
      |>.setX 0 2 0xF011FF0201FF7F7F10F0FE01FF018001)).x 0 3 = 0x0 := by decide
theorem test_pcgtb : -- PA10
    (ran 0x6130184400000000 (State.reset |>.setX 0 1 0xF010FE0100FF807FF010FE0100FF807F
      |>.setX 0 2 0xF011FF0201FF7F7F10F0FE01FF018001)).x 0 3 = 0xFF0000FF0000FF := by decide
theorem test_pcgth : -- PA11
    (ran 0x6140184400000000 (State.reset |>.setX 0 1 0xF010FE0100FF807FF010FE0100FF807F
      |>.setX 0 2 0xF011FF0201FF7F7F10F0FE01FF018001)).x 0 3 = 0xFFFFFFFF := by decide
theorem test_pcgtw : -- PA12
    (ran 0x6150184400000000 (State.reset |>.setX 0 1 0xF010FE0100FF807FF010FE0100FF807F
      |>.setX 0 2 0xF011FF0201FF7F7F10F0FE01FF018001)).x 0 3 = 0xFFFFFFFF := by decide
theorem test_pmaxh : -- PA13
    (ran 0x6160184400000000 (State.reset |>.setX 0 1 0xF010FE0100FF807FF010FE0100FF807F
      |>.setX 0 2 0xF011FF0201FF7F7F10F0FE01FF018001)).x 0 3 = 0xF011FF0201FF7F7F10F0FE0100FF807F := by decide
theorem test_pmaxw : -- PA14
    (ran 0x6170184400000000 (State.reset |>.setX 0 1 0xF010FE0100FF807FF010FE0100FF807F
      |>.setX 0 2 0xF011FF0201FF7F7F10F0FE01FF018001)).x 0 3 = 0xF011FF0201FF7F7F10F0FE0100FF807F := by decide
theorem test_pminh : -- PA15
    (ran 0x6180184400000000 (State.reset |>.setX 0 1 0xF010FE0100FF807FF010FE0100FF807F
      |>.setX 0 2 0xF011FF0201FF7F7F10F0FE01FF018001)).x 0 3 = 0xF010FE0100FF807FF010FE01FF018001 := by decide
theorem test_pminw : -- PA16
    (ran 0x6190184400000000 (State.reset |>.setX 0 1 0xF010FE0100FF807FF010FE0100FF807F
      |>.setX 0 2 0xF011FF0201FF7F7F10F0FE01FF018001)).x 0 3 = 0xF010FE0100FF807FF010FE01FF018001 := by decide
theorem test_psllh : -- PS1
    (ran 0x61A0180400000000 (State.reset
      |>.setX 0 2 0xFEDC123400F080000001FFFF7FFF8001)).x 0 3 = 0xFEDC123400F080000001FFFF7FFF8001 := by decide
theorem test_psrlh : -- PS4
    (ran 0x61B0180400010000 (State.reset
      |>.setX 0 2 0xFEDC123400F080000001FFFF7FFF8001)).x 0 3 = 0x7F6E091A0078400000007FFF3FFF4000 := by decide
theorem test_psrah : -- PS6
    (ran 0x61C0180400010000 (State.reset
      |>.setX 0 2 0xFEDC123400F080000001FFFF7FFF8001)).x 0 3 = 0xFF6E091A0078C0000000FFFF3FFFC000 := by decide
theorem test_psllw : -- PS8
    (ran 0x61D0180400000000 (State.reset
      |>.setX 0 2 0xFEDC123400F080000001FFFF7FFF8001)).x 0 3 = 0xFEDC123400F080000001FFFF7FFF8001 := by decide
theorem test_psrlw : -- PS11
    (ran 0x61E0180400100000 (State.reset
      |>.setX 0 2 0xFEDC123400F080000001FFFF7FFF8001)).x 0 3 = 0xFEDC000000F00000000100007FFF := by decide
theorem test_psraw : -- PS13
    (ran 0x61F0180400100000 (State.reset
      |>.setX 0 2 0xFEDC123400F080000001FFFF7FFF8001)).x 0 3 = 0xFFFFFEDC000000F00000000100007FFF := by decide

/-! Commands whose vectors rest on an open parameter, and those with more than one context or memory. -/

theorem test_ctxinit : (ran 0x0022000000000000 (State.reset.setX 2 5 0x1234 |>.setX 1 5 7)).x 2 0 = 0 ∧ -- RF2
    (ran 0x0022000000000000 (State.reset.setX 2 5 0x1234 |>.setX 1 5 7)).xd 1 5 = 7 := by decide
theorem test_vfcopy : -- the example of R142
    (ran 0x0031000000000000 (State.reset.setVf 0 7 0x4040000040000000_3F80000000000000)).vf 1 7 =
      0x4040000040000000_3F80000000000000 := by decide
theorem test_vrnext_none : -- R316: no lane written
    (ran 0x5050180000000000 (State.reset.setVf 0 3 0x41100000411000004110000041100000)).vf 0 3 =
      0x41100000411000004110000041100000 := by decide
theorem test_plzcw_counts : [0x00000000, 0xFFFFFFFF, 0x00000001, 0x80000000, 0x7FFFFFFF, 0x00010000].map leadingSignBits =
    [31, 31, 30, 0, 0, 14] := by decide -- R374
theorem test_vrxor : (ran 0x5060010002000000 (State.reset.setVf 0 4 0xFFFFFFFF00000000)).vf 0 4 = -- VS17 but for RNG
    0xFFFFFFFF00000000 := by decide

/-- The operands of the DMA vectors, and a source whose quadword j is the byte j. -/
def dmaStart (qwc madr sadr : Quad) : State := State.reset.setX 0 6 qwc |>.setX 0 4 madr |>.setX 0 5 sadr

/-- Quadwords of one byte each, from an address on. -/
def quads : Memory → Nat → List Byte → Memory
  | m, _, [] => m
  | m, a, b :: rest => quads (m.fill a (fun _ => b) 16) (a + 16) rest

theorem test_dmaTospr : -- DM1
    let t := ran 0x7010310A00000000 { dmaStart 2 0x1000 0x20 with arena := quads [] 0x1000 [0xA0, 1, 2] }
    t.spad.byteAt 0x1F = 0 ∧ t.spad.byteAt 0x20 = 0xA0 ∧ t.spad.byteAt 0x3F = 1 ∧ t.spad.byteAt 0x40 = 0 := by
  decide +kernel
theorem test_dmaFromspr : -- DM4
    let t := ran 0x7020310A00000000 { dmaStart 2 0x3000 0x100 with spad := quads [] 0x100 [0x10, 0x11, 0x12] }
    t.arena.byteAt 0x2FFF = 0 ∧ t.arena.byteAt 0x3000 = 0x10 ∧ t.arena.byteAt 0x301F = 0x11 ∧
      t.arena.byteAt 0x3020 = 0 := by
  decide +kernel
theorem test_dmaTosprIl : -- DM5
    let t := ran 0x7030310A00000000 { dmaStart 8 0x1000 0x20 with arena := quads [] 0x1000 [1, 2, 3, 4, 5, 6, 7, 8, 9, 10] }
    t.spad.byteAt 0x50 = 4 ∧ t.spad.byteAt 0x60 = 6 ∧ t.spad.byteAt 0x90 = 9 ∧ t.spad.byteAt 0xA0 = 0 := by
  decide +kernel
theorem test_dmaFromsprIl : -- DM7
    let t := ran 0x7040310A00000000
      { dmaStart 8 0x3000 0x100 with spad := quads [] 0x100 [1, 2, 3, 4, 5, 6, 7, 8, 9, 10] }
    t.arena.byteAt 0x3030 = 4 ∧ t.arena.byteAt 0x3040 = 6 ∧ t.arena.byteAt 0x3070 = 9 ∧ t.arena.byteAt 0x3080 = 0 := by
  decide +kernel
theorem test_ncall : -- NC2: the target register is the return register
    (ran 0x8010008000000000 { State.reset.setX 0 2 0x402000 with natives := [.answers 0x402011 []] }).x 0 2 =
      0x402011 := by decide
theorem test_ncall_port : -- the port values under NC2
    (ran 0x8010008000000000 { State.reset.setX 0 2 0x402000 |>.setX 0 4 0x11 with
      natives := [.answers 0 []] }).ports.native =
      some { target := 0x402000, args := #v[0x11, 0, 0, 0, 0, 0, 0, 0], zero := 0, ctx0 := 0, ctx1 := 0 } := by
  decide +kernel

/-! Words that are no command, and fatals. -/

theorem test_reserved_words : -- EN1, EN3 to EN10, EN12 to EN14, EN17, EN19 to EN26
    [0x0000000000000000, 0xFFFFFFFFFFFFFFFF, 0x9010000000000000, 0x0080000000000000, 0x1210000000000000,
      0x8020000000000000, 0x7050000000000000, 0x0010000000400000, 0x0010000000000001, 0x0014000000000000,
      0x0034000000000000, 0x0031200000000000, 0x10F01804003F0000, 0x61A01804001F0000, 0x1010184400008000,
      0x1010184420000000, 0x40101845E8000000, 0x3050184000000000, 0x5020000403800000, 0x10E0184000001234,
      0x80100E4000000000].all (fun w : Dword => decide ((decodeWord 4 w).toOption = none)) = true := by decide
theorem test_illegal_is_fatal : -- EN13
    let t := ran 0x0034000000000000 State.reset
    t.status = 1 ∧ t.fcode = 1 ∧ t.fcmd = 0x0034000000000000 ∧ t.ports.completion = some .fatal := by decide
theorem test_align_fatal : -- SF5
    let t := ran 0x2100104000000008 (State.reset.setX 0 1 0xFFF0)
    t.fcode = 2 ∧ t.finfo0 = 0xFFF8 ∧ t.finfo1 = 0x10 ∧ t.finfo2 = 0 := by decide
theorem test_arena_fatal : -- SF10
    let t := ran 0x2080104000000003 (State.reset.setX 0 1 0xFFFE)
    t.fcode = 3 ∧ t.finfo0 = 0x10000 ∧ t.finfo1 = 4 := by decide
theorem test_dma_order : -- DF17: window before arena
    let t := ran 0x7010310A00000000 (dmaStart 2 0xFFF0 0x3FF0)
    t.fcode = 4 ∧ t.finfo0 = 0x3FF0 ∧ t.finfo1 = 0x20 := by decide

/-! Well-formedness: what it refuses. -/

theorem test_wf_refuses_context : (Instr.addu 4 1 2 3).wf 4 = false := by decide
theorem test_wf_refuses_source_context : (Instr.vfcopy 1 4).wf 4 = false := by decide
theorem test_wf_accepts : (Instr.vfcopy 1 3).wf 4 = true := by decide

/-! Assembler text (30_encoding.md R122). -/

theorem test_assembles_example : (assemble "@1 ADDU r3, r1, r2").map encode = some 0x1011184400000000 := by decide
theorem test_assembles_mask : (assemble "VADD.xz vf3, vf1, vf2").map encode = some 0x40101844A0000000 := by decide

/-! Witnesses: states and operands that meet the hypotheses of the statements, clause by clause, at the ends of their
ranges. -/

/-- A command waiting at the reset state. -/
def waiting (w : Dword) : State := State.reset.withFetchWord 64 w.toNat

/-- A step that gives a next state with this report. -/
def ends (s : State) (c : Completion) : Bool :=
  match step s with
  | .next t => t.ports.completion == some c
  | _ => false

/-- A command that gives a next state. -/
def completes (i : Instr) (s : State) : Bool :=
  match exec i s with
  | .next t => t.halted == s.halted
  | _ => false

/-- A command that gives a halted next state with this code and these values. -/
def raises (i : Instr) (s : State) (code i0 i1 i2 : Nat) : Bool :=
  match exec i s with
  | .next t => t.halted && t.fcode.toNat == code && t.finfo0.toNat == i0 && t.finfo1.toNat == i1 && t.finfo2.toNat == i2
  | _ => false

theorem witness_DecodeOfEncode : (Instr.vfcopy 15 15).wf 16 = true ∧ (Instr.dsll 3 31 31 63).wf 4 = true := by decide
theorem witness_EncodeOfDecode : (decodeWord 4 0x0031180000000000).toOption = some (.vfcopy 1 3) := by decide
theorem witness_DecodeFollowsMap : IllegalWord 4 0x0014000000000000 ∧ IllegalWord 0 0x1010184400000000 ∧
    (decodeWord 4 0x0013000000000000).toOption = some (.nop 3) :=
  ⟨fun _ _ => .inl (by decide), fun _ _ => .inl (by decide), by decide⟩
theorem witness_StepRunsDecoded :
    (waiting 0x1010184400000000).halted = false ∧ (waiting 0x1010184400000000).inbox = [.command 0x1010184400000000] ∧
      completes (.addu 0 3 1 2) (waiting 0x1010184400000000) = true ∧
      exec (.ncall 0 0) { waiting 0x8010000000000000 with natives := [.never] } = .fault .nativeTargetSilent ∧
      State.reset.inbox = [] ∧ ({ State.reset with inbox := [.host .skip, .command 1, .command 2] } : State).inbox =
        .host .skip :: .command 1 :: [.command 2] :=
  ⟨by decide, by decide, by decide, rfl, rfl, rfl⟩
theorem witness_IllegalWordIsFatal : (waiting 0x0014000000000000).halted = false ∧
    (waiting 0x0014000000000000).inbox = [.command 0x0014000000000000] ∧
    IllegalWord (waiting 0x0014000000000000).cfg.nctx 0x0014000000000000 :=
  ⟨by decide, by decide, fun _ _ => .inl (by decide)⟩
theorem witness_CommandEndsDoneOrFatal : ends (waiting 0x1010184400000000) .done = true ∧
    ends (waiting 0x2050100000000102) .fatal = true := by decide
theorem witness_HaltedIsAbsorbing :
    ({ State.reset with status := 1 } : State).halted = true ∧
    firstHost [.command 0, .host (.arenaStore 0 1), .command 1, .host (.reset none)] =
      some (.arenaStore 0 1, [.command 0, .command 1, .host (.reset none)]) ∧
    firstHost [.command 0, .host .skip, .command 1] = some (.skip, [.command 0, .command 1]) ∧
    firstHost [.command 0, .host (.reset none)] = some (.reset none, [.command 0]) := by decide
theorem witness_StepStopsOnlyInNativeCall :
    step { waiting 0x8010000000000000 with natives := [.never] } = .fault .nativeTargetSilent := rfl

/-- A state other than reset's that meets the invariant: a byte in each memory and a fatal reported. -/
theorem witness_StepKeepsInvariant : ∃ s t, StateInvariant s ∧ step s = .next t ∧ s.arena ≠ [] ∧ s.status = 1 := by
  refine ⟨{ State.reset with arena := [(0xFFFF, 1)], spad := [(0x3FFF, 1)], status := 1, fcode := 6 }, _,
    ⟨by decide, by decide, by decide, by decide, by decide, .inr ⟨by decide, by decide, by decide⟩, fun c => ?_⟩, rfl,
    by decide, by decide⟩
  simp [State.reset, State.bank, Context.zero]
theorem witness_ResetEvent : ∃ s : State, s.inbox = [.host (.reset (some 0x2100100000000200))] ∧ s.arena.wf = true ∧
    (decodeWord s.cfg.nctx 0x2100100000000200).toOption = some (.sq 0 2 0 0x0200) ∧
    writableSpan { s with inbox := [] } (.sq 0 2 0 0x0200) = (0x200, 16) :=
  ⟨{ State.reset with inbox := [.host (.reset (some 0x2100100000000200))], arena := [(0x1FF, 1), (0x210, 1)] },
    by decide, by decide, by decide, by decide⟩
theorem witness_ContextIsolation : completes (.vfcopy 1 0) State.reset = true ∧ (Loc.vf 0 7).context = some 0 ∧
    (0 : Ctx) ≠ (Instr.vfcopy 1 0).ctx := by decide
theorem witness_OnlyMemoryUnitsAreFatal : completes (.div 0 1 2) State.reset = true ∧
    (Instr.div 0 1 2).opcode.1 ≠ 0x2#4 ∧ (Instr.div 0 1 2).opcode.1 ≠ 0x7#4 := by
  decide
theorem witness_SharedStateWriters : completes (.addu 0 3 1 2) State.reset = true ∧
    (Instr.addu 0 3 1 2).opcode ∉ [(0x5#4, 0x05#8), (0x5#4, 0x06#8), (0x7#4, 0x01#8)] := by decide
theorem witness_HardwiredRegisters : (31 : Reg) ≠ 0 := by decide

/-- One host access served from a state whose registers hold known values; the data read. -/
def served (we : Bool) (file : Fin 8) (ctx : Ctx) (idx : Fin 32) : Quad :=
  let s := { (State.reset.setX 3 31 0x11).setF 3 31 0x22 |>.setVf 3 31 0x33 |>.setHi 3 0x44 |>.setLo 3 0x55 with
    rng := 0x66, inbox := [.host (.access ⟨we, file, ctx, idx, 0xFF, 1⟩)] }
  match step s with
  | .next t => t.ports.hRdata
  | _ => 0

theorem witness_HostReads : -- the last context, and the first that does not exist; the ends of files 3 and 4
    [served false 0 3 31, served false 1 3 31, served false 2 3 31, served false 3 3 3, served false 3 3 4,
      served false 3 3 5, served false 4 3 6, served false 4 3 7, served false 5 3 0, served false 0 4 31,
      served false 7 3 31, served false 4 4 6] = [0x11, 0x22, 0x33, 0x44, 0x55, 0, 0x66, 0, 0, 0, 0, 0] := by decide

/-- Of file 4 only `STATUS` ignores the context number (11_interfaces.md R66, R67). -/
theorem test_host_context_of_file_4 :
    hostRead { State.reset with status := 1, fcode := 2 } 4 15 0 = 1 ∧
      hostRead { State.reset with status := 1, fcode := 2 } 4 4 1 = 0 ∧
      hostRead { State.reset with status := 1, fcode := 2 } 4 3 1 = 2 ∧
      hostWrite State.reset 4 4 6 0xFFFF 9 = State.reset ∧ (hostWrite State.reset 4 3 6 0xFFFF 9).rng = 9 := by decide
theorem witness_HostWrites : [(0, 3, 31), (0, 3, 0), (1, 3, 31), (2, 3, 31), (3, 3, 0), (3, 3, 1), (3, 3, 2), (3, 3, 3),
      (3, 3, 4), (3, 3, 5), (4, 3, 6), (4, 3, 7), (4, 4, 6), (5, 3, 0), (7, 3, 31), (0, 4, 31)].all
    (fun p : Fin 8 × Ctx × Fin 32 =>
      match step { State.reset with inbox := [.host (.access ⟨true, p.1, p.2.1, p.2.2, 0xFF, 1⟩)] } with
      | .next t => t.inbox == []
      | _ => false) = true := by decide

/-- The host's store into the arena, at its last byte and past its end (11_interfaces.md R75). -/
theorem witness_HostStores : (serveArenaStore 0xFFFF 7 State.reset).arena = [(0xFFFF, 7)] ∧
    (serveArenaStore 0x10000 7 State.reset).arena = [] ∧ State.reset.arena.wf = true ∧
    (0xFFFF < State.reset.cfg.arenaSize ∧ State.reset.cfg.arenaSize ≤ 0x10000) := by decide

/-- The list of inputs stays at a fatal command and moves past one that completes (10_state.md R33). -/
theorem test_list_position :
    (match step (waiting 0x2050100000000102) with | .next t => t.inbox | _ => []) = [.command 0x2050100000000102] ∧
      (match step (waiting 0x1010184400000000) with | .next t => t.inbox | _ => [.command 0]) = [] := by decide

theorem witness_MovesAndDivides : -- each branch of MOVN, MOVZ, DIV and DIVU
    completes (.movn 0 1 2 3) (State.reset.setX 0 3 0x8000000000000000) = true ∧ completes (.movn 0 1 2 3) State.reset = true ∧
    completes (.movz 0 1 2 3) (State.reset.setX 0 3 0x8000000000000000) = true ∧ completes (.movz 0 1 2 3) State.reset = true ∧
    completes (.div 0 1 2) (State.reset.setX 0 1 0x80000000 |>.setX 0 2 0xFFFFFFFF) = true ∧
    completes (.div 0 1 2) (State.reset.setX 0 1 0x80000000 |>.setX 0 2 1) = true ∧
    completes (.div 0 1 2) State.reset = true ∧ completes (.divu 0 1 2) State.reset = true ∧
    completes (.divu 0 1 2) (State.reset.setX 0 2 1) = true := by decide

theorem witness_NarrowLoads : -- the last access of each width in the arena
    completes (.lb 0 1 2 0) (State.reset.setX 0 2 0xFFFF) = true ∧ completes (.lbu 0 1 2 0) (State.reset.setX 0 2 0xFFFF) = true ∧
    completes (.lh 0 1 2 0) (State.reset.setX 0 2 0xFFFE) = true ∧ completes (.lhu 0 1 2 0) (State.reset.setX 0 2 0xFFFE) = true ∧
    completes (.lw 0 1 2 0) (State.reset.setX 0 2 0xFFFC) = true ∧ completes (.ld 0 1 2 0) (State.reset.setX 0 2 0xFFF8) = true ∧
    (State.reset.setX 0 2 0xFFFF).ea 0 2 0 + 1 ≤ (State.reset.setX 0 2 0xFFFF).cfg.arenaSize := by decide
theorem witness_FileLoads : completes (.lq 0 1 2 0) (State.reset.setX 0 2 0xFFF0) = true ∧
    completes (.lwc1 0 1 2 0) (State.reset.setX 0 2 0xFFFC) = true ∧
    completes (.lqc2 0 1 2 0) (State.reset.setX 0 2 0xFFF0) = true := by decide
theorem witness_Stores : -- the last access of each width, into a canonical arena
    (State.reset.setX 0 2 0xFFF0).arena.wf = true ∧
    [(Instr.sb 0 1 2 15), .sh 0 1 2 14, .sw 0 1 2 12, .sd 0 1 2 8, .sq 0 1 2 0, .swc1 0 1 2 12, .sqc2 0 1 2 0].all
      (fun i => completes i (State.reset.setX 0 2 0xFFF0)) = true := by decide
theorem witness_UnalignedLoads : -- register other than 0, both ends of the last word and doubleword
    (1 : Reg) ≠ 0 ∧ [(Instr.lwl 0 1 2 12), .lwl 0 1 2 15, .lwr 0 1 2 12, .lwr 0 1 2 15, .ldl 0 1 2 8, .ldl 0 1 2 15,
      .ldr 0 1 2 8, .ldr 0 1 2 15].all (fun i => completes i (State.reset.setX 0 2 0xFFF0)) = true := by decide
theorem witness_LoadsToRegisterZero :
    [(Instr.lb 0 0 2 15), .lbu 0 0 2 15, .lh 0 0 2 14, .lhu 0 0 2 14, .lw 0 0 2 12, .ld 0 0 2 8, .lq 0 0 2 0, .lwl 0 0 2 15,
      .lwr 0 0 2 15, .ldl 0 0 2 15, .ldr 0 0 2 15].all (fun i => completes i (State.reset.setX 0 2 0xFFF0)) = true := by decide
theorem witness_MisalignedAccessIsFatal : -- inside the arena and outside
    raises (.lh 0 1 2 0) (State.reset.setX 0 2 1) 2 1 2 0 = true ∧
    raises (.sqc2 0 1 2 0) (State.reset.setX 0 2 0xFFFFFFFF) 2 0xFFFFFFFF 16 0 = true := by decide
theorem witness_OutOfArenaIsFatal : raises (.lb 0 1 2 0) (State.reset.setX 0 2 0x10000) 3 0x10000 1 0 = true ∧
    raises (.sq 0 1 2 0) (State.reset.setX 0 2 0xFFFFFFF0) 3 0xFFFFFFF0 16 0 = true ∧
    raises (.ldr 0 1 2 0) (State.reset.setX 0 2 0x10007) 3 0x10000 8 0 = true := by decide
theorem witness_UnalignedComposition : -- a pair across two words in the arena, and one across its end; words and doublewords
    (State.reset.setX 0 2 0xFFF9).ea 0 2 3 = (State.reset.setX 0 2 0xFFF9).ea 0 2 0 + 3 ∧
    completes (.lwl 0 1 2 3) (State.reset.setX 0 2 0xFFF9) = true ∧ completes (.lwr 0 1 2 0) (State.reset.setX 0 2 0xFFF9) = true ∧
    raises (.lwl 0 1 2 3) (State.reset.setX 0 2 0xFFFD) 3 0x10000 4 0 = true ∧
    (State.reset.setX 0 2 0xFFF1).ea 0 2 7 = (State.reset.setX 0 2 0xFFF1).ea 0 2 0 + 7 ∧
    completes (.ldl 0 1 2 7) (State.reset.setX 0 2 0xFFF1) = true ∧ completes (.ldr 0 1 2 0) (State.reset.setX 0 2 0xFFF1) = true ∧
    raises (.ldl 0 1 2 7) (State.reset.setX 0 2 0xFFF9) 3 0x10000 8 0 = true ∧
    (1 : Reg) ≠ 0 ∧ (2 : Reg) ≠ 1 ∧ (State.reset.setX 0 2 0xFFF9).halted = false := by decide
theorem witness_FloatsRoundToNearestEven : -- the smallest and the largest finite number, a zero sum
    FloatValue 0x00000001#32 1 ∧ FloatValue 0x80000001#32 (-1) ∧ FloatValue 0x7F7FFFFF#32 ((2 ^ 24 - 1) * 2 ^ 253) ∧
    FloatValue 0x80000000#32 0 ∧ FloatValue 0x00000000#32 0 :=
  ⟨⟨false, 1, by decide +kernel, by decide +kernel⟩, ⟨true, 1, by decide +kernel, by decide +kernel⟩,
    ⟨false, (2 ^ 24 - 1) * 2 ^ 253, by decide +kernel, by decide +kernel⟩, ⟨true, 0, by decide +kernel, by decide +kernel⟩,
    ⟨false, 0, by decide +kernel, by decide +kernel⟩⟩
theorem witness_SpecialFloats : floatView 0x7F800001#32 = .nan ∧ floatView 0xFFFFFFFF#32 = .nan ∧
    floatView 0x7F800000#32 = .inf false ∧ floatView 0xFF800000#32 = .inf true := by decide
theorem witness_Conversions : -- 2^31 - 128 and -2^31, the ends of the range a signed word can hold
    FloatValue 0x4EFFFFFF#32 ((2 ^ 31 - 128) * 2 ^ 149) ∧ FloatValue 0xCF000000#32 (-(2 ^ 31) * 2 ^ 149) :=
  ⟨⟨false, (2 ^ 31 - 128) * 2 ^ 149, by decide +kernel, by decide +kernel⟩,
    ⟨true, 2 ^ 31 * 2 ^ 149, by decide +kernel, by decide +kernel⟩⟩
theorem witness_ConversionRoundTrip : -- 1 / 4096, -(2^24 - 1), and -0.0
    (1 : Reg) ≠ 0 ∧ FloatValue 0x39800000#32 (1 * 2 ^ 137) ∧ FloatValue 0xCB7FFFFF#32 (-(2 ^ 24 - 1) * 2 ^ 149) ∧
      FloatValue 0x80000000#32 (0 * 2 ^ 137) :=
  ⟨by decide, ⟨false, 2 ^ 137, by decide +kernel, by decide +kernel⟩,
    ⟨true, (2 ^ 24 - 1) * 2 ^ 149, by decide +kernel, by decide +kernel⟩, ⟨true, 0, by decide +kernel, by decide +kernel⟩⟩

theorem witness_DmaPreconditions : -- DF1, DF2, DF4, DF6, DF9, DF15: each test alone failing
    raises (.dmaTospr 0 6 4 5) (dmaStart 2 0x1008 0x20) 2 0x1008 16 0 = true ∧
    raises (.dmaTospr 0 6 4 5) (dmaStart 2 0x1000 8) 2 8 16 1 = true ∧
    raises (.dmaFromspr 0 6 4 5) (dmaStart 0x401 0x1000 0) 5 0x401 0x400 0 = true ∧
    raises (.dmaTosprIl 0 6 4 5) (dmaStart 6 0x1000 0) 6 6 4 0 = true ∧
    raises (.dmaTospr 0 6 4 5) (dmaStart 0 0x1000 0x4000) 4 0x4000 0 0 = true ∧
    raises (.dmaFromsprIl 0 6 4 5) (dmaStart 0x338 0x1000 0) 4 0 0x4050 0 = true ∧
    raises (.dmaTospr 0 6 4 5) (dmaStart 0 0x10010 0) 3 0x10010 0 0 = true ∧
    raises (.dmaTosprIl 0 6 4 5) (dmaStart 4 0xFFD0 0) 3 0xFFD0 64 0 = true := by decide
theorem witness_MemoryPortTransfers : (Instr.lq 0 1 0 0).opcode.1 = 0x2#4 ∧ State.reset.halted = false ∧
    completes (.lq 0 1 0 0) State.reset = true ∧ raises (.lq 0 1 0 1) State.reset 2 1 16 0 = true ∧
    (dmaStart 4 0x1000 0x3FC0).halted = false ∧ completes (.dmaTosprIl 0 6 4 5) (dmaStart 4 0x1000 0x3FC0) = true ∧
    completes (.dmaFromspr 0 6 4 5) (dmaStart 0 0x10000 0) = true ∧
    raises (.dmaFromsprIl 0 6 4 5) (dmaStart 0 0x1008 0) 2 0x1008 16 0 = true := by decide

/-- The third quadword of the second group of an interleaved copy is read 80 + 32 bytes on (47_dma.md R395). -/
theorem test_dma_transfer_addresses :
    (match exec (.dmaTosprIl 0 6 4 5) (dmaStart 8 0x1000 0) with
    | .next t => (t.ports.transfers.length, (t.ports.transfers.map Transfer.addr)[6]?)
    | _ => (0, none)) = (8, some 0x1070) := by decide

theorem witness_DmaCopies : -- the last quadwords of both memories, and none
    completes (.dmaTospr 0 6 4 5) (dmaStart 1 0xFFF0 0x3FF0) = true ∧
    completes (.dmaFromspr 0 6 4 5) (dmaStart 0 0x10000 0x3FF0) = true ∧
    completes (.dmaTosprIl 0 6 4 5) (dmaStart 4 0xFFC0 0x3FC0) = true ∧
    completes (.dmaFromsprIl 0 6 4 5) (dmaStart 4 0xFFC0 0x3FC0) = true ∧
    (dmaStart 1 0xFFF0 0x3FF0).spad.wf = true ∧ (dmaStart 1 0xFFF0 0x3FF0).arena.wf = true := by
  decide +kernel
theorem witness_NativeCall : exec (.ncall 0 0) { State.reset with natives := [.never] } = .fault .nativeTargetSilent ∧
    completes (.ncall 0 0) State.reset = true ∧
    completes (.ncall 0 0) { State.reset with natives := [.answers 1 [(0, 1)], .never] } = true :=
  ⟨rfl, by decide, by decide⟩

end Sys2Proof.Tests
end

section
/-! PROOFS. The views of binary32 patterns: finite values, infinities, and the sign bit flipped (00_scope.md R14). -/

namespace Sys2Proof.Machine

theorem natAbs_signedMag (neg : Bool) (mag : Nat) : (signedMag neg mag).natAbs = mag := by
  cases neg <;> simp [signedMag]

theorem signedMag_not (neg : Bool) (mag : Nat) : signedMag (!neg) mag = -signedMag neg mag := by
  cases neg <;> simp [signedMag]

/-- The sign of a finite pattern is its top bit. -/
theorem FloatValue.view_eq {a : Word} {v : Int} (h : FloatValue a v) : floatView a = .fin a.msb v.natAbs := by
  obtain ⟨hfin, rfl⟩ := (floatValue_iff a v).1 h
  rw [floatView_eq, if_pos hfin, natAbs_signedMag]

theorem FloatValue.eq_signedMag {a : Word} {v : Int} (h : FloatValue a v) : v = signedMag a.msb v.natAbs := by
  obtain ⟨-, rfl⟩ := (floatValue_iff a v).1 h
  rw [natAbs_signedMag]

/-- A finite number is a multiple of 2^d or lies below 2^(23 + d) in magnitude. -/
theorem FloatValue.gap {a : Word} {v : Int} (h : FloatValue a v) (d : Nat) : 2 ^ d ∣ v.natAbs ∨ v.natAbs < 2 ^ (23 + d) := by
  obtain ⟨-, rfl⟩ := (floatValue_iff a v).1 h
  rw [natAbs_signedMag]
  exact floatMag_gap _ d

/-- Only the infinite patterns stand for infinities. -/
theorem eq_floatPattern_of_floatView_inf {a : Word} {s : Bool} (h : floatView a = .inf s) :
    a = floatPattern s floatInfBits := by
  rw [floatView_eq] at h
  split at h
  · cases h
  · split at h
    · next hbits => cases h; rw [floatInfBits, ← hbits, floatPattern_self]
    · cases h

/-- What a pattern with a given sign and magnitude bits below the NaNs stands for. -/
theorem floatView_floatPattern (neg : Bool) {bits : Nat} (h : bits ≤ floatInfBits) :
    floatView (floatPattern neg bits) = if bits < floatInfBits then .fin neg (floatMag bits) else .inf neg := by
  rw [floatInfBits] at h
  have hlt : bits < 2 ^ 31 := by omega
  have hmod : (floatPattern neg bits).toNat % 2 ^ 31 = bits := by
    rw [floatPattern_toNat neg hlt]
    cases neg <;> simp <;> omega
  rw [floatView_eq, hmod, msb_floatPattern neg hlt, floatInfBits]
  split
  · rfl
  · rw [if_pos (by omega)]

@[simp] theorem floatView_infPattern (neg : Bool) : floatView (floatPattern neg floatInfBits) = .inf neg := by
  rw [floatView_floatPattern neg (le_refl _), if_neg (lt_irrefl _)]

theorem floatPattern_zero_toNat (neg : Bool) : (floatPattern neg 0).toNat = if neg then 2 ^ 31 else 0 :=
  floatPattern_toNat neg (by decide)

theorem msb_flip (b : Word) : (b ^^^ 0x80000000#32).msb = !b.msb := by
  rw [BitVec.msb_xor, show (0x80000000#32).msb = true by decide, Bool.xor_true]

/-- What stands under the opposite sign. -/
def FloatView.negate : FloatView → FloatView
  | .nan => .nan
  | .inf s => .inf (!s)
  | .fin s m => .fin (!s) m

/-- Flipping the sign bit negates what a pattern stands for. -/
theorem floatView_flip (b : Word) : floatView (b ^^^ 0x80000000#32) = (floatView b).negate := by
  have he : (b ^^^ 0x80000000#32).extractLsb' 23 8 = b.extractLsb' 23 8 := by
    rw [BitVec.extractLsb'_xor, show (0x80000000#32).extractLsb' 23 8 = 0#8 by decide, BitVec.xor_zero]
  have hm : (b ^^^ 0x80000000#32).extractLsb' 0 23 = b.extractLsb' 0 23 := by
    rw [BitVec.extractLsb'_xor, show (0x80000000#32).extractLsb' 0 23 = 0#23 by decide, BitVec.xor_zero]
  unfold floatView
  dsimp only
  rw [he, hm, msb_flip]
  split
  · split <;> rfl
  · rfl

/-- Flipping the sign bit negates a finite number. -/
theorem FloatValue.flip {b : Word} {v : Int} (h : FloatValue b v) : FloatValue (b ^^^ 0x80000000#32) (-v) := by
  refine ⟨!b.msb, v.natAbs, by rw [floatView_flip, h.view_eq, FloatView.negate], ?_⟩
  rw [signedMag_not, ← h.eq_signedMag]

end Sys2Proof.Machine
end

section
/-! PROOFS. What the float primitives give where an operand is an infinity or a NaN, or the divisor is zero (00_scope.md
R14, 60_exceptions.md R425). -/

namespace Sys2Proof.Machine

/-- A NaN operand gives the free NaN. -/
theorem float_ops_of_nan (n : Word) {a b : Word} (h : floatView a = .nan ∨ floatView b = .nan) :
    f32add n a b = n ∧ f32sub n a b = n ∧ f32mul n a b = n ∧ f32div n a b = n := by
  rcases h with h | h
  · simp [f32add, f32sub, f32mul, f32div, h]
  · simp only [f32add, f32sub, f32mul, f32div, floatView_flip, h, FloatView.negate]
    cases floatView a <;> simp

/-- Two infinities: the sum and the difference cancel to a NaN or keep the first, the quotient is a NaN. -/
theorem float_ops_of_inf_inf (n : Word) {a b : Word} {s t : Bool} (ha : floatView a = .inf s) (hb : floatView b = .inf t) :
    (if s = t then f32add n a b = a ∧ f32sub n a b = n else f32add n a b = n ∧ f32sub n a b = a) ∧
      floatView (f32mul n a b) = .inf (s ^^ t) ∧ f32div n a b = n := by
  have hpat := eq_floatPattern_of_floatView_inf ha
  refine ⟨?_, by simp [f32mul, ha, hb], by simp [f32div, ha, hb]⟩
  by_cases hst : s = t
  · subst hst
    simp [f32add, f32sub, floatView_flip, FloatView.negate, ha, hb, ← hpat]
  · have hflip : s = !t := Bool.eq_not.2 hst
    simp [f32add, f32sub, floatView_flip, FloatView.negate, ha, hb, ← hpat, hst, ← hflip]

/-- The sum and the difference of an infinity and a finite number are the infinity, in either order. -/
theorem float_sums_of_inf_fin (n : Word) {a b : Word} {s t : Bool} {m : Nat} (ha : floatView a = .inf s)
    (hb : floatView b = .fin t m) :
    f32add n a b = a ∧ f32add n b a = a ∧ f32sub n a b = a ∧ floatView (f32sub n b a) = .inf (!s) := by
  have hpat := eq_floatPattern_of_floatView_inf ha
  simp [f32add, f32sub, floatView_flip, FloatView.negate, ha, hb, ← hpat]

/-- The product of an infinity and a finite number is an infinity, or a NaN where the number is zero. -/
theorem float_products_of_inf_fin (n : Word) {a b : Word} {s t : Bool} {m : Nat} (ha : floatView a = .inf s)
    (hb : floatView b = .fin t m) :
    if m = 0 then f32mul n a b = n ∧ f32mul n b a = n
    else floatView (f32mul n a b) = .inf (s ^^ t) ∧ floatView (f32mul n b a) = .inf (s ^^ t) := by
  split
  · next h => simp [f32mul, ha, hb, h]
  · next h => simp [f32mul, ha, hb, h, Bool.xor_comm]

/-- An infinity over a finite number is an infinity, the finite number over it a zero. -/
theorem float_quotients_of_inf_fin (n : Word) {a b : Word} {s t : Bool} {m : Nat} (ha : floatView a = .inf s)
    (hb : floatView b = .fin t m) :
    floatView (f32div n a b) = .inf (s ^^ t) ∧ (f32div n b a).toNat = if s ^^ t then 2 ^ 31 else 0 := by
  constructor
  · simp [f32div, ha, hb]
  · rw [Bool.xor_comm, ← floatPattern_zero_toNat]
    simp [f32div, ha, hb]

/-- A finite number over zero. -/
theorem f32div_by_zero (n : Word) {a b : Word} {s t : Bool} {m : Nat} (ha : floatView a = .fin s m)
    (hb : floatView b = .fin t 0) :
    if m = 0 then f32div n a b = n else floatView (f32div n a b) = .inf (s ^^ t) := by
  split
  · next h => simp [f32div, ha, hb, h]
  · next h => simp [f32div, ha, hb, h]

theorem f32sqrt_of_nan (n : Word) {a : Word} (h : floatView a = .nan) : f32sqrt n a = n := by
  simp [f32sqrt, h]

theorem f32sqrt_of_inf (n : Word) {a : Word} (h : floatView a = .inf false) : f32sqrt n a = a := by
  simp [f32sqrt, h, ← eq_floatPattern_of_floatView_inf h]

/-- The root of a zero is that zero, sign included. -/
theorem f32sqrt_of_zero (n : Word) {a : Word} (h : FloatValue a 0) : f32sqrt n a = a := by
  have hbits : a.toNat % 2 ^ 31 = 0 := by
    obtain ⟨-, hmag⟩ := (floatValue_iff a 0).1 h
    have hmag0 : floatMag (a.toNat % 2 ^ 31) = 0 := by simpa [natAbs_signedMag] using congrArg Int.natAbs hmag.symm
    unfold floatMag at hmag0
    split at hmag0
    · exact hmag0
    · simp at hmag0
  have hroot : f32sqrt n a = floatPattern a.msb 0 := by simp [f32sqrt, h.view_eq]
  rw [hroot, ← hbits, floatPattern_self]

/-- Settles O48, by the kinds of the operands. -/
theorem specialFloats : Obligations.SpecialFloats := by
  intro n a b
  refine ⟨float_ops_of_nan n, fun _ _ => float_ops_of_inf_inf n, fun s v ha hb => ?_, fun v ha hb => ?_,
    f32sqrt_of_nan n, f32sqrt_of_inf n, f32sqrt_of_zero n⟩
  · obtain ⟨hab, hba, hsub, hneg⟩ := float_sums_of_inf_fin n ha hb.view_eq
    have hmul := float_products_of_inf_fin n ha hb.view_eq
    simp only [Int.natAbs_eq_zero] at hmul
    exact ⟨hab, hba, hsub, hneg, hmul, float_quotients_of_inf_fin n ha hb.view_eq⟩
  · have hdiv := f32div_by_zero n ha.view_eq hb.view_eq
    simpa only [Int.natAbs_eq_zero] using hdiv

end Sys2Proof.Machine
end

section
/-! PROOFS. Each float primitive computes exactly and rounds once to nearest even (00_scope.md R14). -/

namespace Sys2Proof.Machine

/-! Where the rounded quotient lies. -/

theorem le_roundNearestEven {num den k : Nat} (hden : 0 < den) (h : k * den ≤ num) : k ≤ roundNearestEven num den := by
  have hq : k ≤ num / den := (Nat.le_div_iff_mul_le hden).2 h
  unfold roundNearestEven
  dsimp only
  split <;> omega

/-- Below half a place above `k` the quotient rounds to `k` at most. -/
theorem roundNearestEven_le_of_lt {num den k : Nat} (hden : 0 < den) (h : 2 * num < (2 * k + 1) * den) :
    roundNearestEven num den ≤ k := by
  by_contra hlt
  have hnear := (roundNearestEven_nearest hden (num := num) k).1
  have hmul : (k + 1) * den ≤ roundNearestEven num den * den := Nat.mul_le_mul_right _ (by omega)
  zify at h hmul
  ring_nf at h hmul hnear
  omega

/-- From half a place above an odd `k` on the quotient rounds above `k`. -/
theorem lt_roundNearestEven_of_odd {num den k : Nat} (hden : 0 < den) (hk : k % 2 = 1) (h : (2 * k + 1) * den ≤ 2 * num) :
    k < roundNearestEven num den := by
  ring_nf at h
  refine lt_of_le_of_ne (le_roundNearestEven hden (by omega)) fun heq => ?_
  have ⟨hnear, heven⟩ := roundNearestEven_nearest hden (num := num) (k + 1)
  rw [← heq] at hnear heven
  have htie : ((k : Int) * den - num).natAbs = (((k : Int) + 1) * den - num).natAbs := by
    zify at h
    ring_nf at h hnear ⊢
    omega
  have := heven htie (by omega)
  omega

/-! The places dropped and the significand kept. -/

/-- How many places `roundFloat` drops. -/
def roundPlaces (num den : Nat) : Nat := (num / den).log2 - 23

/-- The significand `roundFloat` keeps. -/
def roundSignificand (num den : Nat) : Nat := roundNearestEven num (den * 2 ^ roundPlaces num den)

/-- The number that significand stands for. -/
def roundMag (num den : Nat) : Nat := roundSignificand num den * 2 ^ roundPlaces num den

/-- The magnitude bits `roundFloat` puts together before it cuts them off at infinity. -/
def roundBits (num den : Nat) : Nat := roundPlaces num den * 2 ^ 23 + roundSignificand num den

theorem roundFloat_eq (neg : Bool) (num den : Nat) :
    roundFloat neg num den = floatPattern neg (min floatInfBits (roundBits num den)) := by
  rw [min_def]; rfl

section
variable {num den : Nat} (hden : 0 < den)
include hden

theorem lt_of_roundPlaces : num < 2 ^ (24 + roundPlaces num den) * den := by
  have hlog : num / den < 2 ^ (24 + roundPlaces num den) :=
    Nat.lt_log2_self.trans_le (Nat.pow_le_pow_right (by decide) (by rw [roundPlaces]; omega))
  exact (Nat.div_lt_iff_lt_mul hden).1 hlog

theorem le_of_roundPlaces_pos (h : 0 < roundPlaces num den) : 2 ^ (23 + roundPlaces num den) * den ≤ num := by
  rw [roundPlaces] at *
  have hne : num / den ≠ 0 := fun h0 => by simp [h0] at h
  rw [← Nat.le_div_iff_mul_le hden, show 23 + ((num / den).log2 - 23) = (num / den).log2 by omega]
  exact Nat.log2_self_le hne

theorem roundSignificand_le : roundSignificand num den ≤ 2 ^ 24 := by
  refine roundNearestEven_le_of_lt (by positivity) ?_
  have hlt := lt_of_roundPlaces (num := num) hden
  rw [pow_add, mul_assoc, mul_comm _ den] at hlt
  omega

theorem le_roundSignificand (h : 0 < roundPlaces num den) : 2 ^ 23 ≤ roundSignificand num den := by
  refine le_roundNearestEven (by positivity) ?_
  calc 2 ^ 23 * (den * 2 ^ roundPlaces num den) = 2 ^ (23 + roundPlaces num den) * den := by ring
    _ ≤ num := le_of_roundPlaces_pos hden h

/-- From half a place above the largest finite number on, the bits reach infinity. -/
theorem floatInfBits_le_of_overflow (h : (2 ^ 25 - 1) * 2 ^ 252 * den ≤ num) :
    floatInfBits ≤ roundBits num den := by
  have hd : 253 ≤ roundPlaces num den := by
    by_contra hsmall
    have hlt : num < 2 ^ 24 * 2 ^ 252 * den := (lt_of_roundPlaces hden).trans_le <| by
      rw [pow_add]
      gcongr <;> omega
    omega
  have hm := le_roundSignificand (num := num) hden (by omega)
  rw [floatInfBits, roundBits]
  rcases Nat.lt_or_eq_of_le hd with hgt | heq
  · omega
  · have hup : 2 ^ 24 - 1 < roundSignificand num den := by
      refine lt_roundNearestEven_of_odd (by positivity) (by decide) ?_
      rw [← heq]
      omega
    omega

/-- Below that, the bits stay finite. -/
theorem lt_floatInfBits_of_no_overflow (h : num < (2 ^ 25 - 1) * 2 ^ 252 * den) :
    roundBits num den < floatInfBits := by
  have hd : roundPlaces num den ≤ 253 := by
    by_contra hgt
    have hle : 2 ^ 23 * 2 ^ 254 * den ≤ num := le_trans (by rw [pow_add]; gcongr <;> omega)
      (le_of_roundPlaces_pos hden (by omega))
    omega
  have hm := roundSignificand_le (num := num) hden
  rw [floatInfBits, roundBits]
  rcases Nat.lt_or_eq_of_le hd with hlt | heq
  · omega
  · have hdown : roundSignificand num den ≤ 2 ^ 24 - 1 := by
      refine roundNearestEven_le_of_lt (by positivity) ?_
      rw [heq]
      omega
    omega

/-- Among the multiples of the last place kept the rounded number is nearest, its significand even where it is not alone. -/
theorem roundMag_nearest_grid (j : Int) :
    ((roundMag num den : Int) * den - num).natAbs ≤ (j * 2 ^ roundPlaces num den * den - num).natAbs ∧
    (((roundMag num den : Int) * den - num).natAbs = (j * 2 ^ roundPlaces num den * den - num).natAbs →
      j ≠ roundSignificand num den → roundSignificand num den % 2 = 0) := by
  have hquot := roundNearestEven_nearest (num := num) (den := den * 2 ^ roundPlaces num den) (by positivity) j
  rw [← roundSignificand] at hquot
  have hscale (i : Int) : i * 2 ^ roundPlaces num den * den = i * ((den * 2 ^ roundPlaces num den : Nat) : Int) := by
    push_cast; ring
  rwa [roundMag, Nat.cast_mul, Nat.cast_pow, Nat.cast_ofNat, hscale, hscale]

/-- No number on or below the grid of the kept places is nearer than the rounded one, and a tie goes to the even significand. -/
theorem roundMag_nearest (k : Int)
    (hk : 2 ^ roundPlaces num den ∣ k.natAbs ∨ k.natAbs < 2 ^ (23 + roundPlaces num den)) :
    ((roundMag num den : Int) * den - num).natAbs ≤ (k * den - num).natAbs ∧
    (((roundMag num den : Int) * den - num).natAbs = (k * den - num).natAbs →
      k ≠ roundMag num den → roundSignificand num den % 2 = 0) := by
  have hgrid (j : Int) := roundMag_nearest_grid (num := num) hden j
  by_cases hdvd : 2 ^ roundPlaces num den ∣ k.natAbs
  · obtain ⟨j, rfl⟩ : (2 : Int) ^ roundPlaces num den ∣ k := by
      rw [← Int.natCast_dvd] at hdvd; exact_mod_cast hdvd
    rw [mul_comm _ j]
    exact ⟨(hgrid j).1, fun htie hne => (hgrid j).2 htie fun hj => hne (by rw [hj, roundMag]; push_cast; rfl)⟩
  · have hpos : 0 < roundPlaces num den := Nat.pos_of_ne_zero fun h0 => hdvd (by simp [h0])
    have hlow := (hgrid (2 ^ 23)).1
    rw [← pow_add] at hlow
    have hnum := le_of_roundPlaces_pos hden hpos
    have hbelow : k * den < 2 ^ (23 + roundPlaces num den) * den := by
      have hk' := hk.resolve_left hdvd
      zify at hk'
      exact mul_lt_mul_of_pos_right (lt_of_le_of_lt (le_abs_self k) hk') (by exact_mod_cast hden)
    zify at hnum
    have hfar : ((roundMag num den : Int) * den - num).natAbs < (k * den - num).natAbs := by omega
    exact ⟨hfar.le, fun htie => absurd htie hfar.ne⟩

end

/-! The rounding as the statement puts it. -/

/-- The distance to a signed number, the sign moved to the other side. -/
theorem natAbs_mul_sub_signedMag (neg : Bool) (u : Int) (den num : Nat) :
    (u * den - signedMag neg num).natAbs = ((if neg then -u else u) * den - num).natAbs := by
  cases neg
  · simp [signedMag]
  · simp only [signedMag, if_true]
    rw [← Int.natAbs_neg]
    ring_nf

/-- A number is the signed magnitude exactly where, the sign moved over, it is the magnitude. -/
theorem flip_eq_natCast_iff (neg : Bool) (u : Int) (mag : Nat) : (if neg then -u else u) = mag ↔ u = signedMag neg mag := by
  cases neg
  · simp [signedMag]
  · simp [signedMag, neg_eq_iff_eq_neg]

theorem floatPattern_even (neg : Bool) {bits : Nat} (hlt : bits < 2 ^ 31) (h : bits % 2 = 0) :
    (floatPattern neg bits).getLsbD 0 = false := by
  rw [BitVec.getLsbD, floatPattern_toNat neg hlt, Nat.testBit_zero]
  cases neg <;> simp <;> omega

theorem roundFloat_nearestEven (neg : Bool) (num : Nat) {den : Nat} (hden : 0 < den) :
    NearestEven neg num den (roundFloat neg num den) := by
  rw [roundFloat_eq]
  have hle : min floatInfBits (roundBits num den) ≤ floatInfBits := min_le_left _ _
  refine ⟨msb_floatPattern neg (lt_of_le_of_lt hle (by decide)), fun hover => ?_, fun hfin => ?_⟩
  · rw [min_eq_left (floatInfBits_le_of_overflow hden hover), floatView_infPattern]
  · have hbits := lt_floatInfBits_of_no_overflow hden hfin
    have hmag : floatMag (roundBits num den) = roundMag num den :=
      floatMag_places (roundSignificand_le hden) ((Nat.eq_zero_or_pos _).imp_right (le_roundSignificand hden))
    rw [min_eq_right hbits.le]
    refine ⟨signedMag neg (roundMag num den), ⟨neg, _, ?_, rfl⟩, fun w u hu => ?_⟩
    · rw [floatView_floatPattern neg hbits.le, if_pos hbits, hmag]
    · have hgap : 2 ^ roundPlaces num den ∣ (if neg then -u else u).natAbs ∨
          (if neg then -u else u).natAbs < 2 ^ (23 + roundPlaces num den) := by
        cases neg <;> simpa using hu.gap (roundPlaces num den)
      obtain ⟨hnear, heven⟩ := roundMag_nearest hden _ hgap
      rw [natAbs_mul_sub_signedMag, natAbs_mul_sub_signedMag, (flip_eq_natCast_iff neg _ _).2 rfl]
      refine ⟨hnear, fun htie hne => floatPattern_even neg (hbits.trans (by decide)) ?_⟩
      have := heven htie fun hk => hne ((flip_eq_natCast_iff neg _ _).1 hk)
      rw [roundBits]
      omega

end Sys2Proof.Machine
end

section
/-! PROOFS. The exact results of the float primitives at finite operands, each rounded once (00_scope.md R14). -/

namespace Sys2Proof.Machine

section
variable (n : Word) {a b : Word} {u v : Int} (ha : FloatValue a u)
include ha

theorem f32add_fin (hb : FloatValue b v) :
    f32add n a b = if u + v = 0 then floatPattern (a.msb && b.msb) 0 else roundFloat (decide (u + v < 0)) (u + v).natAbs 1 := by
  unfold f32add
  rw [ha.view_eq, hb.view_eq]
  dsimp only
  rw [← ha.eq_signedMag, ← hb.eq_signedMag]

theorem f32sub_fin (hb : FloatValue b v) :
    f32sub n a b = if u - v = 0 then floatPattern (a.msb && !b.msb) 0 else roundFloat (decide (u - v < 0)) (u - v).natAbs 1 := by
  rw [f32sub, f32add_fin n ha hb.flip, msb_flip, ← sub_eq_add_neg]

theorem f32mul_fin (hb : FloatValue b v) : f32mul n a b = roundFloat (a.msb ^^ b.msb) (u.natAbs * v.natAbs) (2 ^ 149) := by
  unfold f32mul
  rw [ha.view_eq, hb.view_eq]

theorem f32div_fin (hb : FloatValue b v) (hv : v ≠ 0) :
    f32div n a b = roundFloat (a.msb ^^ b.msb) (u.natAbs * 2 ^ 149) v.natAbs := by
  unfold f32div
  rw [ha.view_eq, hb.view_eq]
  exact if_neg (Int.natAbs_ne_zero.2 hv)

end

theorem i32tof32_nearestEven (a : Word) : NearestEven a.msb (a.toInt.natAbs * 2 ^ 149) 1 (i32tof32 a) := by
  rw [i32tof32, ← BitVec.msb_eq_toInt]
  exact roundFloat_nearestEven _ _ Nat.one_pos

/-! The square root. -/

/-- The bitwise search finds the root of any number between its two bounds. -/
theorem sqrtBits_eq_sqrt (k : Nat) {n r : Nat} (hlow : r * r ≤ n) (hhigh : n < (r + 2 ^ k) * (r + 2 ^ k)) :
    sqrtBits k n r = n.sqrt := by
  induction k generalizing r with
  | zero => exact Nat.eq_sqrt.2 ⟨hlow, hhigh⟩
  | succ k ih =>
    rw [sqrtBits]
    split
    · next hfit => exact ih hfit (by rwa [add_assoc, ← two_mul, ← pow_succ'])
    · next hover => exact ih hlow (not_le.1 hover)

theorem natSqrt_eq_sqrt {n : Nat} (h : n < 2 ^ 214 * 2 ^ 214) : natSqrt n = n.sqrt :=
  sqrtBits_eq_sqrt 214 (Nat.zero_le n) (by simpa using h)

/-- No finite pattern stands for more than the largest finite number. -/
theorem floatMag_le {bits : Nat} (h : bits < 0x7F800000) : floatMag bits ≤ (2 ^ 24 - 1) * 2 ^ 253 := by
  unfold floatMag
  split
  · have := Nat.mul_le_mul_left (2 ^ 24 - 1) (Nat.one_le_two_pow (n := 253))
    omega
  · have hexp : 2 ^ (bits / 2 ^ 23 - 1) ≤ 2 ^ 253 := Nat.pow_le_pow_right (by decide) (by omega)
    exact Nat.mul_le_mul (by omega) hexp

theorem FloatValue.natAbs_le {a : Word} {v : Int} (h : FloatValue a v) : v.natAbs ≤ (2 ^ 24 - 1) * 2 ^ 253 := by
  obtain ⟨hfin, rfl⟩ := (floatValue_iff a v).1 h
  rw [natAbs_signedMag]
  exact floatMag_le hfin

/-- An odd number of units has no place dropped, so it is small. -/
theorem FloatValue.even_or_lt {a : Word} {v : Int} (h : FloatValue a v) : 2 ∣ v ∨ v < 2 ^ 24 := by
  have := h.gap 1
  omega

theorem floatValue_two_pow_24 : FloatValue 0x01000000#32 (2 ^ 24) := ⟨false, 2 ^ 24, by decide, by decide⟩

theorem floatValue_two_pow_25 : FloatValue 0x01800000#32 (2 ^ 25) := ⟨false, 2 ^ 25, by decide, by decide⟩

/-- Twice the root of `q` but for the last bit, which is 1 exactly where the root lies between two whole numbers. -/
def sqrtHalves (q : Nat) : Nat := 2 * q.sqrt + if q.sqrt * q.sqrt = q then 0 else 1

theorem f32sqrt_fin (n : Word) {a : Word} {u : Int} (ha : FloatValue a u) (hu : 0 < u) :
    f32sqrt n a = roundFloat false (sqrtHalves (u.natAbs * 2 ^ 149)) 2 := by
  have hpos : a.msb = false := by
    have hsign := ha.eq_signedMag
    cases hmsb : a.msb
    · rfl
    · rw [hmsb, signedMag, if_pos rfl] at hsign; omega
  have hle := ha.natAbs_le
  have hroot : natSqrt (u.natAbs * 2 ^ 149) = Nat.sqrt (u.natAbs * 2 ^ 149) := natSqrt_eq_sqrt (by omega)
  unfold f32sqrt
  rw [ha.view_eq, hpos]
  simp only [Int.natAbs_eq_zero, hu.ne', if_false, Bool.false_eq_true, hroot, sqrtHalves]

theorem le_sqrtHalves {q k : Nat} (h : k * k ≤ q) : 2 * k ≤ sqrtHalves q := by
  have := Nat.le_sqrt.2 h
  rw [sqrtHalves]
  omega

theorem sqrtHalves_lt {q k : Nat} (h : q < k * k) : sqrtHalves q < 2 * k := by
  have := Nat.sqrt_lt.2 h
  rw [sqrtHalves]
  split <;> omega

/-- A whole number on one side of `sqrtHalves q` lies on the same side of twice the exact root. -/
theorem sq_compare_of_sqrtHalves {q : Nat} {x : Int} (hx : 0 ≤ x) (hodd : sqrtHalves q % 2 = 1 → x ≠ sqrtHalves q) :
    (sqrtHalves q ≤ x → 4 * (q : Int) ≤ x ^ 2) ∧ (x ≤ sqrtHalves q → x ^ 2 ≤ 4 * (q : Int)) := by
  have hlow : (q.sqrt : Int) * q.sqrt ≤ q := by exact_mod_cast Nat.sqrt_le q
  have hhigh : (q : Int) < (q.sqrt + 1) * (q.sqrt + 1) := by exact_mod_cast Nat.lt_succ_sqrt q
  have hr : (0 : Int) ≤ q.sqrt := Int.natCast_nonneg _
  rw [sqrtHalves] at hodd ⊢
  split at hodd
  · next hexact =>
    rw [if_pos hexact]
    zify at hexact ⊢
    exact ⟨fun h => by nlinarith, fun h => by nlinarith⟩
  · next hbetween =>
    rw [if_neg hbetween]
    have hne := hodd (by omega)
    push_cast at hne ⊢
    refine ⟨fun h => ?_, fun h => ?_⟩
    · have hx1 : 2 * ((q.sqrt : Int) + 1) ≤ x := by omega
      nlinarith
    · have hx0 : x ≤ 2 * (q.sqrt : Int) := by omega
      nlinarith

/-- `r` is the finite number nearest half of `num`: the middle between it and any other lies on the other's side. -/
def NearestHalf (num : Nat) (r : Int) : Prop :=
  ∀ w y, FloatValue w y → (r < y → num ≤ r + y) ∧ (y < r → r + y ≤ num)

theorem roundFloat_nearestHalf {num : Nat} (h : num < (2 ^ 25 - 1) * 2 ^ 252 * 2) :
    ∃ r, FloatValue (roundFloat false num 2) r ∧ NearestHalf num r := by
  obtain ⟨-, -, hfin⟩ := roundFloat_nearestEven false num Nat.two_pos
  obtain ⟨r, hr, hnear⟩ := hfin h
  refine ⟨r, hr, fun w y hy => ?_⟩
  have hdist := (hnear w y hy).1
  simp only [signedMag, Bool.false_eq_true, if_false, Nat.cast_ofNat] at hdist
  constructor <;> intro <;> omega

theorem NearestHalf.two_pow_25_le {num : Nat} {r : Int} (h : NearestHalf num r) (hnum : 2 ^ 26 ≤ num) : 2 ^ 25 ≤ r := by
  by_contra hlt
  have := (h _ _ floatValue_two_pow_25).1 (not_le.1 hlt)
  omega

/-- A number half way between the result and another is no odd half: the bit kept below the whole root never makes a tie. -/
theorem NearestHalf.add_ne_of_odd {num : Nat} {r y : Int} {a w : Word} (h : NearestHalf num r) (hr : FloatValue a r)
    (hy : FloatValue w y) (hnum : 2 ^ 26 ≤ num) (hodd : num % 2 = 1) : r + y ≠ num := by
  intro htie
  have hlarge := h.two_pow_25_le hnum
  have hreven := hr.even_or_lt
  have hysmall := hy.even_or_lt
  have hbetween := (h _ _ floatValue_two_pow_24).2 (by omega)
  omega

/-- The root is the number nearest the exact root, their middles compared by their squares. -/
theorem f32sqrt_nearest (n : Word) {a : Word} {u : Int} (ha : FloatValue a u) (hu : 0 < u) :
    ∃ r, FloatValue (f32sqrt n a) r ∧ 0 < r ∧ ∀ w y, FloatValue w y → 0 ≤ y →
      (r < y → 4 * u * 2 ^ 149 ≤ (r + y) ^ 2) ∧ (y < r → (r + y) ^ 2 ≤ 4 * u * 2 ^ 149) := by
  have hmax := ha.natAbs_le
  have hlarge : 2 * 2 ^ 25 ≤ sqrtHalves (u.natAbs * 2 ^ 149) := le_sqrtHalves (by omega)
  have hfin : sqrtHalves (u.natAbs * 2 ^ 149) < 2 * 2 ^ 214 := sqrtHalves_lt (by omega)
  obtain ⟨r, hr, hnear⟩ := roundFloat_nearestHalf (num := sqrtHalves (u.natAbs * 2 ^ 149)) (by omega)
  have hpos := hnear.two_pow_25_le (by omega)
  rw [← f32sqrt_fin n ha hu] at hr
  refine ⟨r, hr, by omega, fun w y hy hy0 => ?_⟩
  obtain ⟨habove, hbelow⟩ := sq_compare_of_sqrtHalves (x := r + y) (by omega) (hnear.add_ne_of_odd hr hy (by omega))
  have hq : 4 * u * 2 ^ 149 = 4 * ((u.natAbs * 2 ^ 149 : Nat) : Int) := by omega
  rw [hq]
  exact ⟨fun h => habove ((hnear w y hy).1 h), fun h => hbelow ((hnear w y hy).2 h)⟩

/-- Settles O47: each primitive is `roundFloat` of its exact result, or of enough of it for the root. -/
theorem floatsRoundToNearestEven : Obligations.FloatsRoundToNearestEven := by
  refine ⟨fun neg num _ => roundFloat_nearestEven neg num, i32tof32_nearestEven, fun n a b u v ha hb =>
    ⟨fun hne => ?_, fun h0 => ?_, fun hne => ?_, fun h0 => ?_, ?_, fun hv => ?_, f32sqrt_nearest n ha⟩⟩
  · rw [f32add_fin n ha hb, if_neg hne]
    exact roundFloat_nearestEven _ _ Nat.one_pos
  · rw [f32add_fin n ha hb, if_pos h0, floatPattern_zero_toNat]
    simp only [Bool.and_eq_true]
  · rw [f32sub_fin n ha hb, if_neg hne]
    exact roundFloat_nearestEven _ _ Nat.one_pos
  · rw [f32sub_fin n ha hb, if_pos h0, floatPattern_zero_toNat]
    simp only [Bool.and_eq_true, Bool.not_eq_true']
  · rw [f32mul_fin n ha hb]
    exact roundFloat_nearestEven _ _ (by positivity)
  · rw [f32div_fin n ha hb hv]
    exact roundFloat_nearestEven _ _ (Int.natAbs_pos.2 hv)

end Sys2Proof.Machine
end

section
/-! PROOFS. What a command leaves of the state outside its reach: the registers of other contexts (10_state.md R21), and the
state all contexts share (R32; 20_memory.md R80; 47_dma.md R397; 48_native_call.md R412). -/

namespace Sys2Proof.Machine

/-- A register's value is read from its context's Register File alone. -/
theorem peek_eq_of_bank_eq {s t : State} {c : Ctx} {l : Loc} (hl : l.context = some c) (h : t.bank c = s.bank c) :
    t.peek l = s.peek l := by
  cases l <;> cases hl <;>
    simp only [State.peek, State.x, State.f, State.vfStored, State.acc, State.q, State.i, State.hi, State.lo, h]

/-- No shape of a next state reaches the Register File of another context. -/
theorem Shape.bank_eq {i : Instr} {s t : State} (h : Shape i s t) {c : Ctx} (hc : c ≠ i.ctx) : t.bank c = s.bank c := by
  cases h with
  | regs _ st _ => exact st.others c hc
  | rng _ st => exact st.others c hc
  | fatal e _ eq => rw [eq]; rfl
  | load a n _ _ _ _ st _ => rw [st.others c hc, State.bank_logTransfers]
  | store a n v _ _ _ _ eq => rw [eq, State.bank_logTransfers, State.bank_memWrite]
  | toSpad f a n ts _ _ eq => rw [eq, State.bank_logTransfers]; rfl
  | fromSpad f a n ts _ _ eq => rw [eq, State.bank_logTransfers]; rfl
  | native q v stores _ eq => rw [eq, (RegStep.setXD ..).others c hc]; rfl

/-- Settles O14: every shape of a next state keeps the Register Files of the other contexts. -/
theorem contextIsolation : Obligations.ContextIsolation := fun i s t h _ _ hl hc =>
  peek_eq_of_bank_eq hl ((exec_shape i s t h).bank_eq hc)

/-- VRNEXT and VRXOR (10_state.md R32). -/
def rngWriters : List (BitVec 4 × BitVec 8) := [(0x5#4, 0x05#8), (0x5#4, 0x06#8)]

/-- The DMA commands to the scratchpad (47_dma.md R397). -/
def spadWriters : List (BitVec 4 × BitVec 8) := [(0x7#4, 0x01#8), (0x7#4, 0x03#8)]

/-- The stores, the DMA commands to main memory, and NCALL (20_memory.md R80, 48_native_call.md R412). -/
def arenaWriters : List (BitVec 4 × BitVec 8) :=
  [(0x2#4, 0x0C#8), (0x2#4, 0x0D#8), (0x2#4, 0x0E#8), (0x2#4, 0x0F#8), (0x2#4, 0x10#8), (0x2#4, 0x12#8), (0x2#4, 0x14#8),
    (0x7#4, 0x02#8), (0x7#4, 0x04#8), (0x8#4, 0x01#8)]

theorem mem_arenaWriters_of_store {op : BitVec 4 × BitVec 8} {n : Nat} (hunit : op.1 = 0x2#4)
    (hfn : (op.2.toNat, n) ∈ storeBytes) : op ∈ arenaWriters := by
  have hsub : storeBytes.map (fun p => (0x2#4, BitVec.ofNat 8 p.1)) ⊆ arenaWriters := by decide
  have hmem := List.mem_map_of_mem (f := fun p : Nat × Nat => (0x2#4, BitVec.ofNat 8 p.1)) hfn
  rw [BitVec.ofNat_toNat, BitVec.setWidth_eq, show (0x2#4, op.2) = op from Prod.ext hunit.symm rfl] at hmem
  exact hsub hmem

theorem mem_arenaWriters_of_fromSpad {op : BitVec 4 × BitVec 8} (h : op ∈ [(0x7#4, 0x02#8), (0x7#4, 0x04#8)]) :
    op ∈ arenaWriters :=
  (by decide : [(0x7#4, 0x02#8), (0x7#4, 0x04#8)] ⊆ arenaWriters) h

theorem Shape.rng_eq {i : Instr} {s t : State} (h : Shape i s t) (hop : i.opcode ∉ rngWriters) : t.rng = s.rng := by
  cases h with
  | regs _ _ hrng => exact hrng
  | rng op _ => exact absurd op hop
  | fatal e _ eq => rw [eq, rng_raiseFatal]
  | load a n _ _ _ _ _ hrng => exact hrng
  | store a n v _ _ _ _ eq => rw [eq, State.rng_logTransfers, State.rng_memWrite]
  | toSpad f a n ts _ _ eq => rw [eq, State.rng_logTransfers]
  | fromSpad f a n ts _ _ eq => rw [eq, State.rng_logTransfers]
  | native q v stores _ eq => rw [eq, State.rng_setXD]

theorem Shape.spad_eq {i : Instr} {s t : State} (h : Shape i s t) (hop : i.opcode ∉ spadWriters) : t.spad = s.spad := by
  cases h with
  | regs _ st _ => rw [st.rest]
  | rng _ st => rw [st.rest]
  | fatal e _ eq => rw [eq, spad_raiseFatal]
  | load a n _ _ _ _ st _ => rw [st.rest, State.spad_logTransfers]
  | store a n v _ _ _ _ eq => rw [eq, State.spad_logTransfers, State.spad_memWrite]
  | toSpad f a n ts op _ _ => exact absurd op hop
  | fromSpad f a n ts _ _ eq => rw [eq, State.spad_logTransfers]
  | native q v stores _ eq => rw [eq, State.spad_setXD]

theorem Shape.arena_eq {i : Instr} {s t : State} (h : Shape i s t) (hop : i.opcode ∉ arenaWriters) :
    t.arena = s.arena := by
  cases h with
  | regs _ st _ => rw [st.rest]
  | rng _ st => rw [st.rest]
  | fatal e _ eq => rw [eq, arena_raiseFatal]
  | load a n _ _ _ _ st _ => rw [st.rest, State.arena_logTransfers]
  | store a n v unit fn _ _ _ => exact absurd (mem_arenaWriters_of_store unit fn) hop
  | toSpad f a n ts _ _ eq => rw [eq, State.arena_logTransfers]
  | fromSpad f a n ts op _ _ => exact absurd (mem_arenaWriters_of_fromSpad op) hop
  | native q v stores op _ => exact absurd (op ▸ by decide) hop

/-- Settles O16: a shape that writes a piece of shared state is reached by that piece's writers alone. -/
theorem sharedStateWriters : Obligations.SharedStateWriters := fun i s t h => by
  have hshape := exec_shape i s t h
  exact ⟨hshape.rng_eq, fun hop a => by rw [hshape.spad_eq hop], fun hop a => by rw [hshape.arena_eq hop]⟩

end Sys2Proof.Machine
end

section
/-! PROOFS. The hardwired registers, reset, and the loads that discard what they read (10_state.md R23, R28, R38;
42_scalar_mem.md R203; 70_reset_and_hazards.md R461). -/

namespace Sys2Proof.Machine

/-- A write of bits 63:0 of register 0 is discarded (10_state.md R23). -/
@[simp] theorem State.setXD_zero (s : State) (c : Ctx) (d : Dword) : s.setXD c 0 d = s := State.setX_zero ..
/-- A write of bits 31:0 of register 0 is discarded (10_state.md R23). -/
@[simp] theorem State.setXW_zero (s : State) (c : Ctx) (w : Word) : s.setXW c 0 w = s := State.setX_zero ..

theorem alignDown_mod (ea n : Nat) : alignDown ea n % n = 0 :=
  Nat.mod_eq_zero_of_dvd (Nat.dvd_sub_mod ea)

/-- A load inside the arena that discards what it read leaves the record of its one transfer. -/
theorem completes_discardedLoad {i : Instr} {ea a n : Nat} {put : Nat → State → State} {s : State}
    (hput : ∀ v u, put v u = u) (ha : a % n = 0) (hin : a + n ≤ s.cfg.arenaSize) :
    Completes (loadOp i ea a n put s) fun t => Frame ∅ s t ∧ t.ports.completion = s.ports.completion ∧
      t.ports.transfers.length = s.ports.transfers.length + 1 :=
  ⟨_, loadOp_next i put s ha hin, by rw [hput]; exact ⟨frame_logTransfers .., rfl, by simp⟩⟩

/-- Settles O34: each of these loads writes register 0 alone, which discards it. -/
theorem loadsToRegisterZero : Obligations.LoadsToRegisterZero := by
  rintro c base off s i n (⟨hload, halign⟩ | hload) hin <;>
    simp only [List.mem_cons, List.not_mem_nil, or_false, Prod.mk.injEq] at hload
  · rw [halign, Nat.sub_zero] at hin
    rcases hload with ⟨rfl, rfl⟩ | ⟨rfl, rfl⟩ | ⟨rfl, rfl⟩ | ⟨rfl, rfl⟩ | ⟨rfl, rfl⟩ | ⟨rfl, rfl⟩ | ⟨rfl, rfl⟩
    all_goals
      simp only [exec, execLb, execLbu, execLh, execLhu, execLw, execLd, execLq]
      exact completes_discardedLoad (fun _ _ => State.setX_zero ..) halign hin
  · have hdown := alignDown_mod (s.ea c base off) n
    rcases hload with ⟨rfl, rfl⟩ | ⟨rfl, rfl⟩ | ⟨rfl, rfl⟩ | ⟨rfl, rfl⟩
    all_goals
      simp only [exec, execLwl, execLwr, execLdl, execLdr]
      exact completes_discardedLoad (by simp) hdown hin

/-- Settles O10: at reset both memories are empty, the report is empty and nothing is stored. -/
theorem resetMeetsInvariant : Obligations.ResetMeetsInvariant where
  cfg := by decide
  arena := rfl
  arenaIn := rfl
  spad := rfl
  spadIn := rfl
  report := .inl ⟨rfl, rfl, rfl, rfl, rfl, rfl⟩
  zero c := by simp [State.reset, State.bank, Context.zero]

/-- Settles O12, by the six status registers and the reads of the hardwired registers. -/
theorem resetState : Obligations.ResetState := by
  refine ⟨?_, rfl, fun c => ⟨State.x_zero _ c, State.vf_zero _ c⟩⟩
  rintro l (rfl | rfl | rfl | rfl | rfl | rfl) <;> rfl

/-- Settles O17: the reads and writes of register 0 of each file, and of the other vector registers beside them. -/
theorem hardwiredRegisters : Obligations.HardwiredRegisters := by
  intro s c v d w
  refine ⟨State.x_zero s c, State.setX_zero s c v, State.setXD_zero s c d, State.setXW_zero s c w, ?_⟩
  simp only [State.vf_zero]
  refine ⟨rfl, rfl, rfl, rfl, trivial, fun r hr => ?_⟩
  rw [State.vf_pos _ c hr, State.vf_pos _ c hr, State.vfStored_setVf, if_neg (fun h => hr h.2)]

end Sys2Proof.Machine
end

section
/-! PROOFS. How an accepted command ends: the step as `exec` of the decoded command, and the two ends of a command
(10_state.md R33; 11_interfaces.md R62, R63; 60_exceptions.md R421). -/

namespace Sys2Proof

/-- A word that decodes is the word of its command (30_encoding.md R124). -/
theorem encode_of_decodeWord {nctx : Nat} {w : Dword} {i : Instr} (h : decodeWord nctx w = .ok i) : encode i = w := by
  unfold decodeWord at h
  dsimp only at h
  split at h
  · cases h
  next fmt j hrow =>
    split at h
    · cases h
    next hmask =>
      split at h
      · cases h
        obtain ⟨-, hfields⟩ := reads_rowOf hrow
        rw [encode, hfields, Fields.keep_of_masked w fmt (not_not.mp hmask), Fields.toWord_ofWord]
      · cases h

end Sys2Proof

namespace Sys2Proof.Machine

/-- The block is halted where its status register says so (11_interfaces.md R71). -/
theorem halted_eq_peek_status (s : State) : s.halted = (s.peek .status).getLsbD 0 := by
  simp [State.halted, State.peek]

theorem forall_mem_statusLocs {p : Loc → Prop} :
    (∀ l, l ∈ statusLocs → p l) ↔ p .status ∧ p .fcode ∧ p .fcmd ∧ p .finfo0 ∧ p .finfo1 ∧ p .finfo2 := by
  simp [statusLocs]

theorem RegStep.keeps_status {c : Ctx} {s t : State} (h : RegStep c s t) : ∀ l, l ∈ statusLocs → t.peek l = s.peek l := by
  rw [forall_mem_statusLocs]
  exact ⟨h.peek nofun nofun, h.peek nofun nofun, h.peek nofun nofun, h.peek nofun nofun, h.peek nofun nofun,
    h.peek nofun nofun⟩

/-- A command is fatal, and then it only takes the fatal, or it leaves the status registers alone. -/
theorem Shape.fatal_or_keeps_status {i : Instr} {s t : State} (h : Shape i s t) :
    (∃ e, t = raiseFatal (encode i) e s) ∨ ∀ l, l ∈ statusLocs → t.peek l = s.peek l := by
  cases h with
  | regs _ st _ => exact .inr st.keeps_status
  | rng _ st => exact .inr st.keeps_status
  | fatal e _ eq => exact .inl ⟨e, eq⟩
  | load a n _ _ _ _ st _ => exact .inr fun l hl => (st.keeps_status l hl).trans (peek_logTransfers ..)
  | store a n v _ _ _ _ eq => subst eq; exact .inr (forall_mem_statusLocs.2 ⟨rfl, rfl, rfl, rfl, rfl, rfl⟩)
  | toSpad f a n ts _ _ eq => subst eq; exact .inr (forall_mem_statusLocs.2 ⟨rfl, rfl, rfl, rfl, rfl, rfl⟩)
  | fromSpad f a n ts _ _ eq => subst eq; exact .inr (forall_mem_statusLocs.2 ⟨rfl, rfl, rfl, rfl, rfl, rfl⟩)
  | native q v stores _ eq => subst eq; exact .inr (forall_mem_statusLocs.2 (by simp [State.peek]))

/-- The one way a meaning that is finished answers a next state. -/
theorem finish_eq_next {r : Res} {t : State} (h : finish r = .next t) : ∃ u, r = .next u ∧ t = endCommand u := by
  cases r with
  | next u => cases h; exact ⟨u, rfl, rfl⟩
  | fault f => cases h
  | refused f => cases h

/-- An accepted command reported done. -/
def EndsDone (s t : State) (rest : List Input) : Prop :=
  t.ports.completion = some .done ∧ t.inbox = rest ∧ ∀ l, l ∈ statusLocs → t.peek l = s.peek l

/-- An accepted command `w` reported fatal. -/
def EndsFatal (s t : State) (w : Dword) : Prop :=
  t.ports.completion = some .fatal ∧ t.inbox = s.inbox ∧ t.status = 1 ∧ t.fcmd = w ∧ Untouched statusLocs s t ∧
    t.ports.transfers = []

theorem completion_endCommand (s : State) :
    (endCommand s).ports.completion = some (if s.halted then .fatal else .done) := rfl

theorem endsFatal_raiseFatal (s : State) (w : Dword) (e : Cause) :
    EndsFatal s (endCommand (raiseFatal w e (beginCommand s))) w :=
  ⟨by simp [completion_endCommand], by simp [inbox_endCommand], rfl, rfl,
    fun l hl => by rw [peek_endCommand, peek_raiseFatal w e _ hl, peek_beginCommand], rfl⟩

theorem endsDone_endCommand {s u : State} {i : Input} {rest : List Input} (hrun : s.halted = false)
    (hbox : s.inbox = i :: rest) (hin : u.inbox = s.inbox) (hkeep : ∀ l, l ∈ statusLocs → u.peek l = s.peek l) :
    EndsDone s (endCommand u) rest := by
  have hstatus : u.peek .status = s.peek .status := hkeep _ (by simp [statusLocs])
  have hu : u.halted = false := by rw [halted_eq_peek_status, hstatus, ← halted_eq_peek_status, hrun]
  refine ⟨by simp [completion_endCommand, hu], by simp [inbox_endCommand, hu, hin, hbox], fun l hl => ?_⟩
  rw [peek_endCommand, hkeep l hl]

/-- Settles O7: a word that does not decode is fatal, and a command that does is fatal or keeps the status registers. -/
theorem commandEndsDoneOrFatal : Obligations.CommandEndsDoneOrFatal := by
  intro s t w rest hrun hbox hstep
  change EndsDone s t rest ∨ EndsFatal s t w
  rw [step_command hrun hbox] at hstep
  cases hdec : decodeWord s.cfg.nctx w with
  | error r =>
    rw [acceptCommand_error hdec] at hstep
    cases hstep
    exact .inr (endsFatal_raiseFatal ..)
  | ok i =>
    rw [acceptCommand_ok hdec] at hstep
    obtain ⟨u, hexec, rfl⟩ := finish_eq_next hstep
    obtain ⟨e, rfl⟩ | hkeep := (exec_shape i _ u hexec).fatal_or_keeps_status
    · rw [encode_of_decodeWord hdec]
      exact .inr (endsFatal_raiseFatal ..)
    · refine .inl (endsDone_endCommand hrun hbox ((inbox_exec hexec).trans (inbox_beginCommand s)) fun l hl => ?_)
      rw [hkeep l hl, peek_beginCommand]

/-- Settles O5: a command's step is `exec` between `beginCommand` and `endCommand`, the other two clauses the step of an
idle block and of a skip. -/
theorem stepRunsDecoded : Obligations.StepRunsDecoded := by
  intro s
  refine ⟨fun w rest i hrun hbox hdec => ?_, step_idle, fun w rest hbox => ?_⟩
  · rw [step_command hrun hbox, acceptCommand_ok hdec]
    refine ⟨fun t hexec => ?_, fun f hexec => ?_⟩
    · have hin : t.inbox = .command w :: rest := (inbox_exec hexec).trans hbox
      rw [beginCommand, hexec, finish, endCommand, hin]
      rfl
    · rw [beginCommand, hexec, finish]
  · rw [step_host hbox, serveHost, dropCommand_command]

end Sys2Proof.Machine
end

section
/-! PROOFS. The host access port, row by row of its map, and the host's arena stores (11_interfaces.md R66 to R70, R75). -/

namespace Sys2Proof.Machine

/-! The inputs still waiting are no piece of state that the host port shows. -/

@[simp] theorem peek_withInbox (s : State) (l : List Input) (p : Loc) : ({ s with inbox := l } : State).peek p = s.peek p := by
  cases p <;> rfl

theorem hostRead_withInbox (s : State) (l : List Input) (file : Fin 8) (c : Ctx) (idx : Fin 32) :
    hostRead { s with inbox := l } file c idx = hostRead s file c idx := rfl

theorem hostRead_status (s : State) (c : Ctx) : hostRead s 4 c 0 = (s.status &&& 1).setWidth 128 := rfl

/-- But for `STATUS`, a context that does not exist reads 0 (11_interfaces.md R66). -/
theorem hostRead_of_noContext {s : State} {file : Fin 8} {c : Ctx} {idx : Fin 32} (hc : s.cfg.nctx ≤ c.val)
    (hne : ¬(file = 4 ∧ idx = 0)) : hostRead s file c idx = 0 := by
  rw [hostRead, if_neg hne, if_pos hc]

/-- What the map has no object for reads 0 (11_interfaces.md R67). -/
theorem hostRead_of_unmapped {s : State} {file : Fin 8} {c : Ctx} {idx : Fin 32}
    (h : (file = 3 ∧ 5 ≤ idx.val) ∨ (file = 4 ∧ 7 ≤ idx.val) ∨ 5 ≤ file.val) : hostRead s file c idx = 0 := by
  have hne : ¬(file = 4 ∧ idx = 0) := by omega
  rw [hostRead, if_neg hne]
  split
  · rfl
  · split
    · omega
    · omega
    · omega
    · split
      case h_6 => rfl
      all_goals omega
    · split
      case h_7 => rfl
      all_goals omega
    · rfl

/-- The register banks of the map (11_interfaces.md R67). -/
theorem hostRead_registers {s : State} {c : Ctx} (hc : c.val < s.cfg.nctx) (r : Reg) :
    hostRead s 0 c r = s.x c r ∧ hostRead s 1 c r = (s.f c r).setWidth 128 ∧ hostRead s 2 c r = s.vf c r := by
  simp [hostRead, hc]

/-- The single registers of a context (11_interfaces.md R67). -/
theorem hostRead_special {s : State} {c : Ctx} (hc : c.val < s.cfg.nctx) :
    hostRead s 3 c 0 = s.acc c ∧ hostRead s 3 c 1 = (s.q c).setWidth 128 ∧ hostRead s 3 c 2 = (s.i c).setWidth 128 ∧
      hostRead s 3 c 3 = s.hi c ∧ hostRead s 3 c 4 = s.lo c := by
  simp [hostRead, hc]

/-- What all contexts share, `STATUS` apart (11_interfaces.md R67, R72 to R74). -/
theorem hostRead_shared {s : State} {c : Ctx} (hc : c.val < s.cfg.nctx) :
    hostRead s 4 c 1 = (s.fcode &&& 0xFF).setWidth 128 ∧ hostRead s 4 c 2 = s.fcmd.setWidth 128 ∧
      hostRead s 4 c 3 = s.finfo0.setWidth 128 ∧ hostRead s 4 c 4 = s.finfo1.setWidth 128 ∧
      hostRead s 4 c 5 = s.finfo2.setWidth 128 ∧ hostRead s 4 c 6 = s.rng.setWidth 128 := by
  simp [hostRead, hc]

/-- The low bits of a word, as a host read delivers them: the bits above are 0 (11_interfaces.md R71, R72). -/
theorem toNat_lowBits {n : Nat} (hn : n < 32) (w : Word) :
    ((w &&& BitVec.ofNat 32 (2 ^ n - 1)).setWidth 128).toNat = w.toNat % 2 ^ n := by
  have hlt : 2 ^ n < 2 ^ 32 := Nat.pow_lt_pow_right (by decide) hn
  rw [BitVec.toNat_setWidth_of_le (by decide), BitVec.toNat_and, BitVec.toNat_ofNat, Nat.mod_eq_of_lt (by omega),
    Nat.and_two_pow_sub_one_eq_mod]

theorem step_hostRead {s : State} {a : HostAccess} {rest : List Input} (hbox : s.inbox = .host (.access a) :: rest)
    (hread : a.we = false) :
    ∃ t, step s = .next t ∧ Untouched ∅ s t ∧ t.inbox = rest ∧ t.ports.hRdata = hostRead s a.file a.ctx a.idx := by
  refine ⟨_, step_host hbox, ?_⟩
  simp only [serveHost, serveAccess, hread, Bool.false_eq_true, if_false, hostRead_withInbox, and_true]
  intro l _
  cases l <;> rfl

/-- Settles O18, by the rows of the map. -/
theorem hostReads : Obligations.HostReads := by
  intro s a rest hbox hread
  obtain ⟨t, hstep, hkeep, hin, hdata⟩ := step_hostRead hbox hread
  obtain ⟨we, file, c, idx, wdata, wmask⟩ := a
  refine ⟨t, hstep, hkeep, hin, fun hc => ?_, ?_, fun hc hne => hdata.trans (hostRead_of_noContext hc hne),
    fun h => hdata.trans (hostRead_of_unmapped h)⟩
  · dsimp only at hdata hc ⊢
    rw [hdata]
    obtain ⟨hx, hf, hvf⟩ := hostRead_registers hc idx
    obtain ⟨hacc, hq, hi, hhi, hlo⟩ := hostRead_special hc
    obtain ⟨hcode, hcmd, hinfo0, hinfo1, hinfo2, hrng⟩ := hostRead_shared hc
    refine ⟨?_, ?_, ?_, ?_, ?_, ?_, ?_, ?_, ?_, ?_, ?_, ?_, ?_, ?_⟩ <;> rintro rfl
    · exact hx
    · rw [hf, BitVec.toNat_setWidth_of_le (by decide)]
    · exact hvf
    all_goals rintro rfl
    · exact hacc
    · rw [hq, BitVec.toNat_setWidth_of_le (by decide)]
    · rw [hi, BitVec.toNat_setWidth_of_le (by decide)]
    · exact hhi
    · exact hlo
    · exact hcode ▸ toNat_lowBits (n := 8) (by decide) s.fcode
    · rw [hcmd, BitVec.toNat_setWidth_of_le (by decide)]
    · rw [hinfo0, BitVec.toNat_setWidth_of_le (by decide)]
    · rw [hinfo1, BitVec.toNat_setWidth_of_le (by decide)]
    · rw [hinfo2, BitVec.toNat_setWidth_of_le (by decide)]
    · rw [hrng, BitVec.toNat_setWidth_of_le (by decide)]
  · rintro rfl rfl
    rw [hdata, hostRead_status]
    exact toNat_lowBits (n := 1) (by decide) s.status

/-! Host writes (11_interfaces.md R66, R67, R69, R70). -/

/-- `t` is `s` after the enabled ones of the `n` bytes of `l` are replaced by `new`'s. -/
def WritesBytes (l : Loc) (n : Nat) (wmask : BitVec 16) (new : Quad) (s t : State) : Prop :=
  Untouched {l} s t ∧ ∀ k, k < n → laneU 8 (t.peek l) k =
    if wmask.getLsbD k = true then laneU 8 new k else laneU 8 (s.peek l) k

theorem WritesBytes.of_withInbox {l : Loc} {n : Nat} {wmask : BitVec 16} {new : Quad} {s t : State} {rest : List Input}
    (h : WritesBytes l n wmask new { s with inbox := rest } t) : WritesBytes l n wmask new s t := by
  simpa only [WritesBytes, Untouched, peek_withInbox] using h

/-- The two readings of a lane: Safety's in numbers, the model's in bits. -/
theorem laneU_eq_lane (w : Nat) (v : Quad) (i : Nat) : laneU w v i = (lane w v i).toNat := by
  rw [lane_toNat, Nat.mul_comm, laneU]

theorem laneU_byteMerge (wmask : BitVec 16) (new old : Quad) {k : Nat} (hk : k < 16) :
    laneU 8 (byteMerge wmask new old) k = if wmask.getLsbD k = true then laneU 8 new k else laneU 8 old k := by
  simp only [laneU_eq_lane, lane_byteMerge wmask new old hk, apply_ite BitVec.toNat]

/-- The low word of a value has its low four bytes. -/
theorem laneU_lowWord (v : Quad) {k : Nat} (hk : k < 4) : laneU 8 ((v.setWidth 32).setWidth 128) k = laneU 8 v k := by
  rw [laneU_eq_lane, laneU_eq_lane]
  congr 1
  apply BitVec.eq_of_getLsbD_eq
  intro j hj
  have h32 : k * 8 + j < 32 := by omega
  have h128 : k * 8 + j < 128 := by omega
  simp [getLsbD_lane, h32, h128]

/-- A merge into a piece of state of 128 bits. -/
theorem writesBytes_of_peek {l : Loc} {wmask : BitVec 16} {new : Quad} {s t : State}
    (h : ∀ p, t.peek p = if p = l then byteMerge wmask new (s.peek l) else s.peek p) :
    WritesBytes l 16 wmask new s t :=
  ⟨fun p hp => (h p).trans (if_neg hp), fun k hk => by rw [h, if_pos rfl, laneU_byteMerge _ _ _ hk]⟩

/-- A merge into a piece of state of 32 bits, which keeps the low ones of the merge. -/
theorem writesBytes_of_peek32 {l : Loc} {wmask : BitVec 16} {new : Quad} {s t : State} {old : Word}
    (hold : s.peek l = old.setWidth 128)
    (h : ∀ p, t.peek p = if p = l then (hostMerge32 wmask new old).setWidth 128 else s.peek p) :
    WritesBytes l 4 wmask new s t := by
  refine ⟨fun p hp => (h p).trans (if_neg hp), fun k hk => ?_⟩
  rw [h, if_pos rfl, hostMerge32, laneU_lowWord _ hk, laneU_byteMerge _ _ _ (by omega), hold]

theorem hostWrite_of_noContext {s : State} {file : Fin 8} {c : Ctx} {idx : Fin 32} {wmask : BitVec 16} {new : Quad}
    (hc : s.cfg.nctx ≤ c.val) : hostWrite s file c idx wmask new = s := by
  rw [hostWrite, if_pos hc]

/-- What the map has no writable object for is left as it is (11_interfaces.md R67, R70). -/
theorem hostWrite_of_unmapped {s : State} {file : Fin 8} {c : Ctx} {idx : Fin 32} {wmask : BitVec 16} {new : Quad}
    (h : (file = 3 ∧ 5 ≤ idx.val) ∨ (file = 4 ∧ idx ≠ 6) ∨ 5 ≤ file.val) : hostWrite s file c idx wmask new = s := by
  rw [hostWrite]
  split
  · rfl
  · split
    · omega
    · omega
    · omega
    · split
      case h_6 => rfl
      all_goals omega
    · rw [if_neg (by omega)]
    · rfl

/-- The writable register banks of the map (11_interfaces.md R67). -/
theorem hostWrite_registers {s : State} {c : Ctx} (hc : c.val < s.cfg.nctx) (r : Reg) (wmask : BitVec 16) (new : Quad) :
    hostWrite s 0 c r wmask new = s.setX c r (byteMerge wmask new (s.x c r)) ∧
    hostWrite s 1 c r wmask new = s.setF c r (hostMerge32 wmask new (s.f c r)) ∧
    hostWrite s 2 c r wmask new = s.setVf c r (byteMerge wmask new (s.vfStored c r)) := by
  simp [hostWrite, hc]

/-- The writable single registers (11_interfaces.md R67). -/
theorem hostWrite_special {s : State} {c : Ctx} (hc : c.val < s.cfg.nctx) (wmask : BitVec 16) (new : Quad) :
    hostWrite s 3 c 0 wmask new = s.setAcc c (byteMerge wmask new (s.acc c)) ∧
    hostWrite s 3 c 1 wmask new = s.setQ c (hostMerge32 wmask new (s.q c)) ∧
    hostWrite s 3 c 2 wmask new = s.setI c (hostMerge32 wmask new (s.i c)) ∧
    hostWrite s 3 c 3 wmask new = s.setHi c (byteMerge wmask new (s.hi c)) ∧
    hostWrite s 3 c 4 wmask new = s.setLo c (byteMerge wmask new (s.lo c)) ∧
    hostWrite s 4 c 6 wmask new = s.setRng (hostMerge32 wmask new s.rng) := by
  simp [hostWrite, hc]

theorem peek_setX_of_ne_zero (s : State) (c : Ctx) {r : Reg} (hr : r ≠ 0) (v : Quad) (p : Loc) :
    (s.setX c r v).peek p = if p = .x c r then v else s.peek p := by
  simp [peek_setX, hr]

theorem step_hostWrite {s : State} {a : HostAccess} {rest : List Input} (hbox : s.inbox = .host (.access a) :: rest)
    (hwrite : a.we = true) :
    step s = .next (hostWrite { s with inbox := rest } a.file a.ctx a.idx a.wmask a.wdata) := by
  rw [step_host hbox, serveHost, serveAccess, if_pos hwrite]

/-- A byte stored by the host's own means (11_interfaces.md R75). -/
theorem completes_arenaStore {s : State} {addr : Nat} {value : Byte} {rest : List Input}
    (hbox : s.inbox = .host (.arenaStore addr value) :: rest) (hwf : s.arena.wf = true) :
    Completes (step s) fun t => t.inbox = rest ∧
      (addr < s.cfg.arenaSize → Untouched {.arena addr} s t ∧ t.arena.byteAt addr = value) ∧
      (s.cfg.arenaSize ≤ addr → Untouched ∅ s t) := by
  refine ⟨_, step_host hbox, ?_⟩
  rw [serveHost, serveArenaStore]
  split
  · next hlt =>
    refine ⟨rfl, fun _ => ⟨fun l hl => ?_, ?_⟩, fun hge => absurd hlt (Nat.not_lt.2 hge)⟩
    · cases l with
      | arena b =>
        have hb : b ≠ addr := fun h => hl (by rw [h]; rfl)
        simp [State.peek, Memory.byteAt_setByte hwf, hb]
      | _ => rfl
    · exact (Memory.byteAt_setByte hwf ..).trans (if_pos rfl)
  · next hge =>
    exact ⟨rfl, fun hlt => absurd hlt hge, fun _ l _ => peek_withInbox ..⟩

/-- Settles O19, by the rows of the map. -/
theorem hostWrites : Obligations.HostWrites := by
  refine ⟨fun s addr value rest hbox hwf => completes_arenaStore hbox hwf, fun s a rest hbox hwrite => ?_⟩
  refine ⟨_, step_hostWrite hbox hwrite, ?_, fun hc => ?_, fun hc l _ => ?_, fun h l _ => ?_⟩
  · rw [(regStep_hostWrite ..).rest]
  · obtain ⟨we, file, c, idx, wdata, wmask⟩ := a
    obtain ⟨hx, hf, hvf⟩ := hostWrite_registers (s := { s with inbox := rest }) hc idx wmask wdata
    obtain ⟨hacc, hq, hi, hhi, hlo, hrng⟩ := hostWrite_special (s := { s with inbox := rest }) hc wmask wdata
    refine ⟨?_, ?_, ?_, ?_, ?_, ?_, ?_, ?_, ?_, ?_⟩ <;> rintro rfl
    · intro hr
      exact WritesBytes.of_withInbox (writesBytes_of_peek fun p => hx ▸ peek_setX_of_ne_zero _ c hr _ p)
    · rintro rfl l _
      rw [hx, State.setX_zero, peek_withInbox]
    · exact WritesBytes.of_withInbox (writesBytes_of_peek32 rfl fun p => hf ▸ peek_setF _ c idx _ p)
    · exact WritesBytes.of_withInbox (writesBytes_of_peek fun p => hvf ▸ peek_setVf _ c idx _ p)
    all_goals rintro rfl
    · exact WritesBytes.of_withInbox (writesBytes_of_peek fun p => hacc ▸ peek_setAcc _ c _ p)
    · exact WritesBytes.of_withInbox (writesBytes_of_peek32 rfl fun p => hq ▸ peek_setQ _ c _ p)
    · exact WritesBytes.of_withInbox (writesBytes_of_peek32 rfl fun p => hi ▸ peek_setI _ c _ p)
    · exact WritesBytes.of_withInbox (writesBytes_of_peek fun p => hhi ▸ peek_setHi _ c _ p)
    · exact WritesBytes.of_withInbox (writesBytes_of_peek fun p => hlo ▸ peek_setLo _ c _ p)
    · exact WritesBytes.of_withInbox (writesBytes_of_peek32 rfl fun p => hrng ▸ peek_setRng _ _ p)
  · rw [hostWrite_of_noContext (s := { s with inbox := rest }) hc, peek_withInbox]
  · rw [hostWrite_of_unmapped h, peek_withInbox]

end Sys2Proof.Machine
end

section
/-! PROOFS. The transfers a command makes on the memory port (11_interfaces.md R64). -/

namespace Sys2Proof.Machine

/-! DMA commands. -/

/-- Where quadword `k` of a dense or a strided side lies, from its base on (47_dma.md R393 to R396). -/
def quadOffset (strided : Bool) (k : Nat) : Nat := if strided then 80 * (k / 4) + 16 * (k % 4) else 16 * k

theorem sourceAt_eq (il : Bool) (base k : Nat) : sourceAt il base k = base + quadOffset il k := by
  cases il <;> simp [sourceAt, quadOffset, Nat.add_assoc]

/-- Transfer `tr` moves quadword `k` of a copy. -/
def MovesQuad (il wr : Bool) (o : DmaOperands) (s : State) (k : Nat) (tr : Transfer) : Prop :=
  tr.write = wr ∧ tr.len = 16 ∧ tr.addr = o.madr + quadOffset (il && !wr) k ∧
    tr.data.toNat = if wr then leBytes s.spad (o.sadr + quadOffset il k) 16 else leBytes s.arena tr.addr 16

/-- A copy that is fatal makes no transfer; one that is not makes one for each quadword, in order. -/
def CopyTransfers (il wr : Bool) (o : DmaOperands) (s t : State) : Prop :=
  (t.halted = true ∧ t.ports.transfers = s.ports.transfers) ∨
  (t.halted = false ∧ ∃ ts, t.ports.transfers = s.ports.transfers ++ ts ∧ ts.length = o.qwc ∧
    ∀ k tr, ts[k]? = some tr → MovesQuad il wr o s k tr)

theorem getElem?_map_range {α : Type} {f : Nat → α} {n k : Nat} {x : α} (h : ((List.range n).map f)[k]? = some x) :
    x = f k := by
  obtain ⟨hk, rfl⟩ := List.getElem?_eq_some_iff.1 h
  simp

theorem toNat_read16 (m : Memory) (a : Nat) : (BitVec.ofNat 128 (m.read a 16)).toNat = leBytes m a 16 := by
  rw [BitVec.toNat_ofNat, Nat.mod_eq_of_lt (by simpa using Memory.read_lt m a 16),
    Memory.read_eq_leBytes]

theorem copyTransfers_dmaToSpad {i : Instr} {il : Bool} {o : DmaOperands} {s t : State} (hrun : s.halted = false)
    (h : dmaToSpad i il o s = .next t) : CopyTransfers il false o s t := by
  obtain ⟨e, rfl⟩ | rfl := next_dmaToSpad h
  · exact .inl ⟨halted_raiseFatal .., rfl⟩
  · refine .inr ⟨hrun, _, rfl, by simp, fun k tr hk => ?_⟩
    rw [getElem?_map_range hk]
    exact ⟨rfl, rfl, by simp [sourceAt_eq], toNat_read16 ..⟩

theorem copyTransfers_dmaFromSpad {i : Instr} {il : Bool} {o : DmaOperands} {s t : State} (hrun : s.halted = false)
    (h : dmaFromSpad i il o s = .next t) : CopyTransfers il true o s t := by
  obtain ⟨e, rfl⟩ | rfl := next_dmaFromSpad h
  · exact .inl ⟨halted_raiseFatal .., rfl⟩
  · refine .inr ⟨hrun, _, rfl, by simp, fun k tr hk => ?_⟩
    rw [getElem?_map_range hk]
    exact ⟨rfl, rfl, by simp [destAt, quadOffset], (toNat_read16 ..).trans (by simp [sourceAt_eq])⟩

/-! Loads and stores. -/

/-- The codes of unit SM that make a transfer of `len` bytes (42_scalar_mem.md R203 to R222). -/
abbrev WidthOfCode (fn len : Nat) : Prop :=
  (len = 1 ↔ fn ∈ [0x01, 0x02, 0x0C]) ∧ (len = 2 ↔ fn ∈ [0x03, 0x04, 0x0D]) ∧
  (len = 4 ↔ fn ∈ [0x05, 0x08, 0x09, 0x0E, 0x11, 0x12]) ∧ (len = 8 ↔ fn ∈ [0x06, 0x0A, 0x0B, 0x0F]) ∧
  (len = 16 ↔ fn ∈ [0x07, 0x10, 0x13, 0x14])

/-- The codes of the stores (42_scalar_mem.md R214 to R218, R220, R222). -/
abbrev storeCodes : List Nat := [0x0C, 0x0D, 0x0E, 0x0F, 0x10, 0x12, 0x14]

theorem loadBytes_codes : ∀ p ∈ loadBytes, p.1 ∉ storeCodes ∧ WidthOfCode p.1 p.2 := by decide

theorem storeBytes_codes : ∀ p ∈ storeBytes, p.1 ∈ storeCodes ∧ WidthOfCode p.1 p.2 := by decide

/-- One transfer of the width of code `fn`, aligned and inside the arena. -/
def AccessTransfer (fn size : Nat) (tr : Transfer) : Prop :=
  tr.addr % tr.len = 0 ∧ tr.addr + tr.len ≤ size ∧ (tr.write = true ↔ fn ∈ storeCodes) ∧ WidthOfCode fn tr.len

/-- A load or store that is fatal makes no transfer; one that is not makes exactly one. -/
theorem Shape.access_transfer {i : Instr} {s t : State} (h : Shape i s t) (hunit : i.opcode.1 = 0x2#4)
    (hrun : s.halted = false) :
    (t.halted = true ∧ t.ports.transfers = s.ports.transfers) ∨
    (t.halted = false ∧ ∃ tr, t.ports.transfers = s.ports.transfers ++ [tr] ∧
      AccessTransfer i.opcode.2.toNat s.cfg.arenaSize tr) := by
  have hother {ops : List (BitVec 4 × BitVec 8)} (hop : i.opcode ∈ ops) (hne : 0x2#4 ∉ ops.map Prod.fst) : False :=
    hne (hunit ▸ List.mem_map_of_mem hop)
  cases h with
  | regs unit _ _ => rw [hunit] at unit; exact absurd unit (by decide)
  | rng op _ => exact (hother op (by decide)).elim
  | fatal e _ eq => subst eq; exact .inl ⟨halted_raiseFatal .., rfl⟩
  | load a n _ fn align bound st _ =>
    obtain ⟨hload, hwidth⟩ := loadBytes_codes _ fn
    have htransfers := congrArg (fun u => u.ports.transfers) st.rest
    have hhalted := congrArg State.halted st.rest
    exact .inr ⟨hhalted.trans hrun, _, htransfers, align, bound, iff_of_false Bool.false_ne_true hload, hwidth⟩
  | store a n v _ fn align bound eq =>
    obtain ⟨hstore, hwidth⟩ := storeBytes_codes _ fn
    subst eq
    exact .inr ⟨hrun, _, rfl, align, bound, iff_of_true rfl hstore, hwidth⟩
  | toSpad f a n ts op _ _ => exact (hother op (by decide)).elim
  | fromSpad f a n ts op _ _ => exact (hother op (by decide)).elim
  | native q v stores op _ => exact absurd hunit (by rw [op]; decide)

/-- Settles O38: the transfers of the two copies, and the one of a load or a store. -/
theorem memoryPortTransfers : Obligations.MemoryPortTransfers := by
  refine ⟨fun c rq rm rsp s t i il wr hmem hrun hexec => ?_, fun i s t hunit hrun hexec =>
    (exec_shape i s t hexec).access_transfer hunit hrun⟩
  simp only [List.mem_cons, List.not_mem_nil, or_false, Prod.mk.injEq] at hmem
  have hcopy : CopyTransfers il wr (s.dmaOperands c rq rm rsp) s t := by
    rcases hmem with ⟨rfl, rfl, rfl⟩ | ⟨rfl, rfl, rfl⟩ | ⟨rfl, rfl, rfl⟩ | ⟨rfl, rfl, rfl⟩
    · exact copyTransfers_dmaToSpad hrun hexec
    · exact copyTransfers_dmaFromSpad hrun hexec
    · exact copyTransfers_dmaToSpad hrun hexec
    · exact copyTransfers_dmaFromSpad hrun hexec
  simp only [CopyTransfers, MovesQuad, State.dmaOperands, xw_toNat] at hcopy
  exact hcopy

end Sys2Proof.Machine
end

section
/-! PROOFS. What every step keeps: the invariant under each shape of a next state, each act of the host, and a step
(20_memory.md R81, R83; 11_interfaces.md R71 to R74; 60_exceptions.md R424; 10_state.md R23). -/

namespace Sys2Proof.Machine

/-! The invariant under the updates of a state. It does not speak of the inputs, the ports, the replies or the counter of draws. -/

section
variable {s : State} (hs : StateInvariant s)
include hs

theorem StateInvariant.withInbox (l : List Input) : StateInvariant { s with inbox := l } := { hs with }

theorem StateInvariant.withPorts (p : Ports) : StateInvariant { s with ports := p } := { hs with }

theorem StateInvariant.nextNative : StateInvariant { s with natives := s.natives.tail } := { hs with }

theorem StateInvariant.logTransfers (ts : List Transfer) : StateInvariant (s.logTransfers ts) := hs.withPorts _

theorem StateInvariant.beginCommand : StateInvariant (beginCommand s) := hs.withPorts _

theorem StateInvariant.endCommand : StateInvariant (endCommand s) := { hs with }

theorem StateInvariant.withArena {m : Memory} (hwf : m.wf = true) (hin : m.below s.cfg.arenaSize = true) :
    StateInvariant { s with arena := m } :=
  { hs with arena := hwf, arenaIn := hin }

theorem StateInvariant.withSpad {m : Memory} (hwf : m.wf = true) (hin : m.below spadSize = true) :
    StateInvariant { s with spad := m } :=
  { hs with spad := hwf, spadIn := hin }

/-- A fatal reports one of the six codes (60_exceptions.md R424). -/
theorem StateInvariant.raiseFatal (w : Dword) (e : Cause) : StateInvariant (raiseFatal w e s) :=
  { hs with report := .inr ⟨rfl, by rw [fcode_raiseFatal]; cases e.code <;> decide⟩ }

/-- Registers written with nothing stored in register 0. -/
theorem StateInvariant.regStep {c : Ctx} {t : State} (h : RegStep c s t) : StateInvariant t := by
  have hzero (d : Ctx) : (t.bank d).x[0] = 0 := by
    by_cases hd : d = c
    · exact hd ▸ h.zero (hs.zero c)
    · exact h.others d hd ▸ hs.zero d
  rw [h.rest]
  exact { hs with zero := hzero }

/-! The invariant under a command. -/

/-- Every shape of a command's next state keeps the invariant: what it writes lies inside the memory it writes. -/
theorem StateInvariant.shape {i : Instr} {t : State} (h : Shape i s t) : StateInvariant t := by
  cases h with
  | regs _ st _ => exact hs.regStep st
  | rng _ st => exact hs.regStep st
  | fatal e _ eq => exact eq ▸ hs.raiseFatal ..
  | load a n _ _ _ _ st _ => exact (hs.logTransfers _).regStep st
  | store a n v _ _ _ bound eq =>
    subst eq
    exact (hs.withArena (Memory.wf_write hs.arena ..) (Memory.below_write hs.arenaIn bound _)).logTransfers _
  | toSpad f a n ts _ bound eq =>
    subst eq
    exact (hs.withSpad (Memory.wf_copyQuads hs.spad ..) (Memory.below_copyQuads hs.spadIn bound ..)).logTransfers _
  | fromSpad f a n ts _ bound eq =>
    subst eq
    exact (hs.withArena (Memory.wf_copyQuads hs.arena ..) (Memory.below_copyQuads hs.arenaIn bound ..)).logTransfers _
  | native q v stores _ eq =>
    subst eq
    have hcalled := (hs.nextNative.withPorts { s.ports with native := some q }).withArena
      (Memory.wf_storeAll hs.arena s.cfg.arenaSize stores) (Memory.below_storeAll hs.arenaIn _)
    exact hcalled.regStep (.setXD ..)

theorem StateInvariant.acceptCommand {w : Dword} {t : State} (h : acceptCommand w s = .next t) : StateInvariant t := by
  cases hdec : decodeWord s.cfg.nctx w with
  | error r =>
    rw [acceptCommand_error hdec] at h
    cases h
    exact (hs.beginCommand.raiseFatal ..).endCommand
  | ok i =>
    rw [acceptCommand_ok hdec] at h
    obtain ⟨u, hexec, rfl⟩ := finish_eq_next h
    exact (hs.beginCommand.shape (exec_shape i _ u hexec)).endCommand

end

/-! The arena bytes a command could write lie inside the arena. -/

theorem storeSpan_le (s : State) (ea n : Nat) : (storeSpan s ea n).1 + (storeSpan s ea n).2 ≤ s.cfg.arenaSize := by
  unfold storeSpan
  split
  · exact Nat.zero_le _
  · next h => exact (accessFault_cases (by simpa using h)).2

theorem dmaSpan_le (s : State) (il : Bool) (o : DmaOperands) :
    (dmaSpan s il o).1 + (dmaSpan s il o).2 ≤ s.cfg.arenaSize := by
  unfold dmaSpan
  split
  · exact Nat.zero_le _
  · next h =>
    obtain ⟨-, -, -, -, -, -, hin⟩ := dmaFault_cases (by simpa using h)
    exact hin

theorem writableSpan_le (s : State) (i : Instr) : (writableSpan s i).1 + (writableSpan s i).2 ≤ s.cfg.arenaSize := by
  cases i with
  | sb | sh | sw | sd | sq | swc1 | sqc2 => exact storeSpan_le ..
  | dmaFromspr | dmaFromsprIl => exact dmaSpan_le ..
  | ncall => exact (Nat.zero_add _).le
  | _ => exact Nat.zero_le _

/-! The invariant under an act of the host. -/

section
variable {s : State} (hs : StateInvariant s)
include hs

/-- Reset leaves the arena as it was, or with the bytes a command in execution could write filled. -/
theorem StateInvariant.arenaAfterReset (d : Option Dword) :
    (arenaAfterReset d s).wf = true ∧ (arenaAfterReset d s).below s.cfg.arenaSize = true := by
  unfold Machine.arenaAfterReset
  split
  · exact ⟨hs.arena, hs.arenaIn⟩
  · split
    · exact ⟨hs.arena, hs.arenaIn⟩
    · split
      · exact ⟨hs.arena, hs.arenaIn⟩
      · exact ⟨Memory.wf_fill hs.arena .., Memory.below_fill hs.arenaIn (writableSpan_le ..) _⟩

theorem StateInvariant.serveReset (d : Option Dword) : StateInvariant (serveReset d s) := by
  obtain ⟨harena, harenaIn⟩ := hs.arenaAfterReset d
  have hspad := wf_spadAfterReset s
  have hspadIn := below_spadAfterReset s
  unfold Machine.serveReset
  -- The scratchpad is named, so that nothing below computes its bytes.
  generalize spadAfterReset s = m at hspad hspadIn ⊢
  exact { cfg := hs.cfg, arena := harena, arenaIn := harenaIn, spad := hspad, spadIn := hspadIn
          report := .inl ⟨rfl, rfl, rfl, rfl, rfl, rfl⟩
          zero := fun c => by simp [State.bank, Context.anyFrom] }

theorem StateInvariant.serveHost (e : HostEvent) : StateInvariant (serveHost e s) := by
  cases e with
  | access a =>
    rw [Machine.serveHost, serveAccess]
    split
    · exact hs.regStep (regStep_hostWrite ..)
    · exact hs.withPorts _
  | arenaStore addr value =>
    rw [Machine.serveHost, serveArenaStore]
    split
    · next hin => exact hs.withArena (Memory.wf_setByte hs.arena ..) (Memory.below_setByte hs.arenaIn hin _)
    · exact hs
  | skip => exact hs.withInbox _
  | reset d => exact hs.serveReset d

end

/-! The step. -/

/-- What a step that answers a next state did: nothing, an act of the host, or a command. -/
theorem step_next_cases {s t : State} (h : step s = .next t) :
    t = s ∨ (∃ e rest, t = serveHost e { s with inbox := rest }) ∨ ∃ w, acceptCommand w s = .next t := by
  unfold step at h
  split at h
  · split at h
    · cases h; exact .inl rfl
    · cases h; exact .inr (.inl ⟨_, _, rfl⟩)
  · split at h
    · cases h; exact .inl rfl
    · cases h; exact .inr (.inl ⟨_, _, rfl⟩)
    · exact .inr (.inr ⟨_, h⟩)

/-- Settles O11: a step does nothing, an act of the host or a command, and each keeps the invariant. -/
theorem stepKeepsInvariant : Obligations.StepKeepsInvariant := by
  intro s t hs hstep
  obtain rfl | ⟨e, rest, rfl⟩ | ⟨w, hw⟩ := step_next_cases hstep
  · exact hs
  · exact (hs.withInbox rest).serveHost e
  · exact hs.acceptCommand hw

end Sys2Proof.Machine
end

section
/-! PROOFS. The effective address, and the fatal a load or a store takes where its access is misaligned or leaves the
arena (20_memory.md R82, R87, R88, R90; 42_scalar_mem.md R200). -/

namespace Sys2Proof.Machine

/-- The offset modulo 2^32. -/
theorem imm32_toNat (off : BitVec 16) : ((imm32 off).toNat : Int) = off.toInt % 2 ^ 32 := by
  rw [← toNat_of_toInt (imm32 off), imm32, BitVec.toInt_signExtend_of_le (by decide)]
  omega

theorem ea_eq (s : State) (c : Ctx) (base : Reg) (off : BitVec 16) :
    (s.ea c base off : Int) = ((lowU 32 (s.x c base) : Int) + off.toInt) % 2 ^ 32 := by
  have hoff := imm32_toNat off
  rw [State.ea, BitVec.toNat_add, xw_toNat, lowU]
  omega

/-- Settles O28: the sum of the two words, and the sum at base 0, which reads 0. -/
theorem effectiveAddress : Obligations.EffectiveAddress := by
  refine fun c base off s => ⟨ea_eq s c base off, ?_⟩
  rw [ea_eq, State.x_zero]
  simp [lowU]

theorem ea_lt (s : State) (c : Ctx) (base : Reg) (off : BitVec 16) : s.ea c base off < 2 ^ 64 :=
  (BitVec.isLt _).trans (by decide)

/-- A command's body runs under the tests of R200 on an access of `n` bytes at `a` for the effective address `ea`. -/
def TestsAccess (i : Instr) (ea a n : Nat) (s : State) : Prop :=
  n ≤ 16 ∧ ∃ body, exec i s = guarded i (accessFault s.cfg.arenaSize ea a n) body s

/-- The loads and stores of one access at the effective address, with its width. -/
theorem testsAccess_at_ea (c : Ctx) (rt base : Reg) (off : BitVec 16) (s : State) {i : Instr} {n : Nat}
    (h : (i, n) ∈ [(.lb c rt base off, 1), (.lbu c rt base off, 1), (.sb c rt base off, 1), (.lh c rt base off, 2),
      (.lhu c rt base off, 2), (.sh c rt base off, 2), (.lw c rt base off, 4), (.sw c rt base off, 4),
      (.lwc1 c rt base off, 4), (.swc1 c rt base off, 4), (.ld c rt base off, 8), (.sd c rt base off, 8),
      (.lq c rt base off, 16), (.sq c rt base off, 16), (.lqc2 c rt base off, 16), (.sqc2 c rt base off, 16)]) :
    TestsAccess i (s.ea c base off) (s.ea c base off) n s := by
  simp only [List.mem_cons, List.not_mem_nil, or_false, Prod.mk.injEq] at h
  rcases h with ⟨rfl, rfl⟩ | ⟨rfl, rfl⟩ | ⟨rfl, rfl⟩ | ⟨rfl, rfl⟩ | ⟨rfl, rfl⟩ | ⟨rfl, rfl⟩ | ⟨rfl, rfl⟩ | ⟨rfl, rfl⟩ |
    ⟨rfl, rfl⟩ | ⟨rfl, rfl⟩ | ⟨rfl, rfl⟩ | ⟨rfl, rfl⟩ | ⟨rfl, rfl⟩ | ⟨rfl, rfl⟩ | ⟨rfl, rfl⟩ | ⟨rfl, rfl⟩
  all_goals
    simp only [TestsAccess, exec, execLb, execLbu, execSb, execLh, execLhu, execSh, execLw, execSw, execLwc1, execSwc1,
      execLd, execSd, execLq, execSq, execLqc2, execSqc2, loadOp, storeOp]
    exact ⟨by decide, _, rfl⟩

/-- The unaligned loads, each of the containing aligned word or doubleword. -/
theorem testsAccess_aligned (c : Ctx) (rt base : Reg) (off : BitVec 16) (s : State) {i : Instr} {n : Nat}
    (h : (i, n) ∈ [(.lwl c rt base off, 4), (.lwr c rt base off, 4), (.ldl c rt base off, 8), (.ldr c rt base off, 8)]) :
    TestsAccess i (s.ea c base off) (alignDown (s.ea c base off) n) n s := by
  simp only [List.mem_cons, List.not_mem_nil, or_false, Prod.mk.injEq] at h
  rcases h with ⟨rfl, rfl⟩ | ⟨rfl, rfl⟩ | ⟨rfl, rfl⟩ | ⟨rfl, rfl⟩
  all_goals
    simp only [TestsAccess, exec, execLwl, execLwr, execLdl, execLdr, loadOp]
    exact ⟨by decide, _, rfl⟩

/-- A command whose test fails raises that fatal and does nothing else. -/
theorem raises_of_guarded {i : Instr} {test : Option Cause} {e : Cause} {body : State → Res} {s : State}
    (hexec : exec i s = guarded i test body s) (htest : test = some e) (h0 : e.info0 < 2 ^ 64) (h1 : e.info1 < 2 ^ 64)
    (h2 : e.info2 < 2 ^ 64) : Raises i e.code.number e.info0 e.info1 e.info2 s :=
  ⟨_, hexec.trans (guarded_some htest ..), fatalOutcome_raiseFatal _ _ _ h0 h1 h2⟩

/-- The alignment test comes first, so it does not matter whether the access is inside the arena. -/
theorem TestsAccess.raises_align {i : Instr} {ea a n : Nat} {s : State} (h : TestsAccess i ea a n s) (hea : ea < 2 ^ 64)
    (ha : a % n ≠ 0) : Raises i 2 ea n 0 s := by
  obtain ⟨hn, body, hexec⟩ := h
  exact raises_of_guarded hexec (accessFault_align ha) hea (hn.trans_lt (by decide)) (Nat.two_pow_pos 64)

theorem TestsAccess.raises_arena {i : Instr} {ea a n : Nat} {s : State} (h : TestsAccess i ea a n s) (hlt : a < 2 ^ 64)
    (ha : a % n = 0) (hout : s.cfg.arenaSize < a + n) : Raises i 3 a n 0 s := by
  obtain ⟨hn, body, hexec⟩ := h
  exact raises_of_guarded hexec (accessFault_arena ha hout) hlt (hn.trans_lt (by decide)) (Nat.two_pow_pos 64)

/-- Settles O35: these are the commands of one access at the effective address but for the byte ones. -/
theorem misalignedAccessIsFatal : Obligations.MisalignedAccessIsFatal := fun c rt base off s _ _ h =>
  (testsAccess_at_ea c rt base off s (.tail _ (.tail _ (.tail _ h)))).raises_align (ea_lt ..)

/-- Settles O36: an aligned access outside the arena, at the effective address or at the aligned one below it. -/
theorem outOfArenaIsFatal : Obligations.OutOfArenaIsFatal := fun c rt base off s _ _ =>
  ⟨fun h => (testsAccess_at_ea c rt base off s h).raises_arena (ea_lt ..),
    fun h => (testsAccess_aligned c rt base off s h).raises_arena ((Nat.sub_le ..).trans_lt (ea_lt ..)) (alignDown_mod ..)⟩

end Sys2Proof.Machine
end

section
/-! PROOFS. The encoding: the decoder and the encoder are inverse on the commands whose contexts exist, and a word is
rejected exactly when the opcode map has no row for it (30_encoding.md R114, R117, R118, R119, R124). -/

namespace Sys2Proof

/-! What the fields of a command say of it. -/

@[simp] theorem Fields.unit_ofInstr (i : Instr) : (Fields.ofInstr i).unit = i.opcode.1 := by cases i <;> rfl
@[simp] theorem Fields.fn_ofInstr (i : Instr) : (Fields.ofInstr i).fn = i.opcode.2 := by cases i <;> rfl
@[simp] theorem Fields.ctx_ofInstr (i : Instr) : (Fields.ofInstr i).ctx = BitVec.ofFin i.ctx := by cases i <;> rfl

@[simp] theorem Fields.ofWord_encode (i : Instr) : Fields.ofWord (encode i) = Fields.ofInstr i := Fields.ofWord_toWord _

/-- A second context is named by the commands of format C, in the low four bits of field `a` (30_encoding.md R112). -/
theorem Instr.sctx?_eq (i : Instr) :
    i.sctx? = if i.format = .C then some ((Fields.ofInstr i).a.setWidth 4).toFin else none := by
  cases i with
  | vfcopy ctx sctx => exact congrArg some (Laws.toFin_setWidth_ofCtx sctx).symm
  | _ => rfl

/-- Where a word holds the second context (30_encoding.md R111, R112). -/
theorem Fields.setWidth_a_ofWord (w : Dword) : (Fields.ofWord w).a.setWidth 4 = w.extractLsb' 43 4 :=
  BitVec.setWidth_extractLsb'_of_le (by decide)

/-- The contexts of a command exist or not by the two context numbers in its word (30_encoding.md R114 step 3). -/
theorem Instr.not_wf_iff (nctx : Nat) (i : Instr) :
    ¬ i.wf nctx = true ↔ nctx ≤ ((encode i).extractLsb' 48 4).toNat ∨
      (i.format = .C ∧ nctx ≤ ((encode i).extractLsb' 43 4).toNat) := by
  have hctx : (encode i).extractLsb' 48 4 = BitVec.ofFin i.ctx := by
    rw [← Fields.ctx_ofInstr, ← Fields.ofWord_encode]; rfl
  rw [hctx, ← Fields.setWidth_a_ofWord, Fields.ofWord_encode, Instr.wf, Instr.sctx?_eq]
  by_cases hC : i.format = .C
  · simp [hC, imp_iff_not_or]
  · simp [hC]

/-! The decoder on a command's word. -/

/-- The decoder reads every command's fields back; the fields it narrows held a value of the narrow width
(30_encoding.md R112, R118). -/
theorem rowOf_ofInstr (i : Instr) : rowOf (Fields.ofInstr i) = some (i.format, i) := by
  cases i with
  | vfcopy ctx sctx => exact Laws.FieldsRoundTrip.vfcopy ctx sctx
  | sll ctx rd rt sa => exact Laws.FieldsRoundTrip.sll ctx rd rt sa
  | srl ctx rd rt sa => exact Laws.FieldsRoundTrip.srl ctx rd rt sa
  | sra ctx rd rt sa => exact Laws.FieldsRoundTrip.sra ctx rd rt sa
  | psllh ctx rd rt sa => exact Laws.FieldsRoundTrip.psllh ctx rd rt sa
  | psrlh ctx rd rt sa => exact Laws.FieldsRoundTrip.psrlh ctx rd rt sa
  | psrah ctx rd rt sa => exact Laws.FieldsRoundTrip.psrah ctx rd rt sa
  | psllw ctx rd rt sa => exact Laws.FieldsRoundTrip.psllw ctx rd rt sa
  | psrlw ctx rd rt sa => exact Laws.FieldsRoundTrip.psrlw ctx rd rt sa
  | psraw ctx rd rt sa => exact Laws.FieldsRoundTrip.psraw ctx rd rt sa
  | _ => rfl

/-- A word made of the fields a format keeps has that format's fixed bits (30_encoding.md R112, R117). -/
theorem Fields.masked_keep (f : Fields) (fmt : Format) :
    (f.keep fmt).toWord &&& fmt.mask = opcodeBits f.unit f.fn := by
  cases fmt with
  | Z => exact masked_Z _ _ f.ctx.toFin
  | C => exact masked_C _ _ f.ctx.toFin _
  | R3 => exact masked_R3 _ _ f.ctx.toFin ..
  | R2B => exact masked_R2B _ _ f.ctx.toFin ..
  | RDO => exact masked_RDO _ _ f.ctx.toFin ..
  | RSO => exact masked_RSO _ _ f.ctx.toFin ..
  | RST => exact masked_RST _ _ f.ctx.toFin ..
  | RI => exact masked_RI _ _ f.ctx.toFin ..
  | LI => exact masked_LI _ _ f.ctx.toFin ..
  | SH4 => exact masked_SH4 _ _ f.ctx.toFin ..
  | SH5 => exact masked_SH5 _ _ f.ctx.toFin ..
  | SH6 => exact masked_SH6 _ _ f.ctx.toFin ..
  | M => exact masked_M _ _ f.ctx.toFin ..
  | V3 => exact masked_V3 _ _ f.ctx.toFin ..
  | V3B => exact masked_V3B _ _ f.ctx.toFin ..
  | VA => exact masked_VA _ _ f.ctx.toFin ..
  | VAB => exact masked_VAB _ _ f.ctx.toFin ..
  | V2 => exact masked_V2 _ _ f.ctx.toFin ..
  | VQ => exact masked_VQ _ _ f.ctx.toFin ..
  | VQ1 => exact masked_VQ1 _ _ f.ctx.toFin ..
  | VR => exact masked_VR _ _ f.ctx.toFin ..
  | VX => exact masked_VX _ _ f.ctx.toFin ..
  | D => exact masked_D _ _ f.ctx.toFin ..
  | N => exact masked_N _ _ f.ctx.toFin ..

/-- Every bit a command's format does not use is 0 in its word, its row being read back (30_encoding.md R117, R124). -/
theorem encode_masked (i : Instr) : encode i &&& i.format.mask = opcodeBits i.opcode.1 i.opcode.2 := by
  obtain ⟨-, hkeep⟩ := reads_rowOf (rowOf_ofInstr i)
  rw [encode, hkeep, Fields.masked_keep, Fields.unit_ofInstr, Fields.fn_ofInstr]

theorem decodeWord_encode {nctx : Nat} {i : Instr} (h : i.wf nctx = true) : decodeWord nctx (encode i) = .ok i := by
  unfold decodeWord
  simp [rowOf_ofInstr, encode_masked, h]

theorem wf_of_decodeWord {nctx : Nat} {w : Dword} {i : Instr} (h : decodeWord nctx w = .ok i) : i.wf nctx = true := by
  unfold decodeWord at h
  dsimp only at h
  split at h
  · cases h
  · split at h
    · cases h
    · split at h
      next hwf => cases h; exact hwf
      · cases h

/-- Settles O2: the row of a command's fields gives the command back, and none of the three steps rejects its word. -/
theorem decodeOfEncode : Obligations.DecodeOfEncode := fun _ _ h => decodeWord_encode h

/-- Settles O3: the decoder's row read backwards, its last test passed. -/
theorem encodeOfDecode : Obligations.EncodeOfDecode := fun _ _ _ h => ⟨encode_of_decodeWord h, wf_of_decodeWord h⟩

/-! The decoder and the rows of the map. -/

/-- A word with a format's fixed bits has the row's `unit` and `fn`, which every mask compares (30_encoding.md R112). -/
theorem opcode_of_masked {w : Dword} {fmt : Format} {unit : BitVec 4} {fn : BitVec 8}
    (h : w &&& fmt.mask = opcodeBits unit fn) : (Fields.ofWord w).unit = unit ∧ (Fields.ofWord w).fn = fn := by
  have hmask : (Fields.ofWord fmt.mask).unit = 15#4 ∧ (Fields.ofWord fmt.mask).fn = 255#8 := by cases fmt <;> decide
  have hfields := congrArg Fields.ofWord h
  rw [Fields.ofWord_and, Fields.ofWord_opcodeBits, hmask.1, hmask.2, and_ones4, and_ones8] at hfields
  exact ⟨congrArg Fields.unit hfields, congrArg Fields.fn hfields⟩

/-- The row is found by `unit` and `fn` alone (30_encoding.md R113, R114 step 1). -/
theorem rowOf_of_opcode {f : Fields} (i : Instr) (hunit : f.unit = i.opcode.1) (hfn : f.fn = i.opcode.2) :
    ∃ j, rowOf f = some (i.format, j) := by
  obtain ⟨unit, fn, ctx, a, b, c, dest, bc, fsf, ftf, rsv, sa, imm16⟩ := f
  dsimp only at hunit hfn
  subst hunit hfn
  cases i <;> exact ⟨_, rfl⟩

/-- A word with the fixed bits of a row is the word of a command of that row (30_encoding.md R114, R117). -/
theorem exists_encode_of_masked {w : Dword} {i : Instr}
    (h : w &&& i.format.mask = opcodeBits i.opcode.1 i.opcode.2) : ∃ j : Instr, j.format = i.format ∧ encode j = w := by
  obtain ⟨hunit, hfn⟩ := opcode_of_masked h
  obtain ⟨j, hrow⟩ := rowOf_of_opcode i hunit hfn
  obtain ⟨hformat, hfields⟩ := reads_rowOf hrow
  rw [← hunit, ← hfn] at h
  exact ⟨j, hformat.symm, by rw [encode, hfields, Fields.keep_of_masked w _ h, Fields.toWord_ofWord]⟩

theorem decodeWord_error_iff (nctx : Nat) (w : Dword) :
    (∃ e, decodeWord nctx w = .error e) ↔ Machine.IllegalWord nctx w := by
  constructor
  · rintro ⟨e, he⟩ i hmasked
    obtain ⟨j, hformat, rfl⟩ := exists_encode_of_masked hmasked
    rw [← hformat, ← Instr.not_wf_iff]
    intro hwf
    rw [decodeWord_encode hwf] at he
    cases he
  · intro hillegal
    cases hdec : decodeWord nctx w with
    | error e => exact ⟨e, rfl⟩
    | ok i =>
      obtain rfl := encode_of_decodeWord hdec
      exact absurd (wf_of_decodeWord hdec) ((i.not_wf_iff nctx).mpr (hillegal i (encode_masked i)))

/-- Settles O4: a word with a row's fixed bits is the word of a command, rejected for its contexts or not at all; an
accepted word is the word of its command. -/
theorem decodeFollowsMap : Obligations.DecodeFollowsMap := by
  intro nctx w
  refine ⟨decodeWord_error_iff nctx w, fun i hdec => ?_⟩
  obtain rfl := encode_of_decodeWord hdec
  exact ⟨encode_masked i, (Fields.ofWord_encode i).symm⟩

/-- Settles O1, by running the decoder on each word. -/
theorem decodesSpecWords : Obligations.DecodesSpecWords := by
  unfold Obligations.DecodesSpecWords
  decide

end Sys2Proof

namespace Sys2Proof.Machine

/-- Settles O6: the word does not decode, and the fatal of such a word changes the report alone. -/
theorem illegalWordIsFatal : Obligations.IllegalWordIsFatal := by
  intro s w rest hrun hbox hillegal
  obtain ⟨r, hdec⟩ := (decodeWord_error_iff ..).mpr hillegal
  refine ⟨_, (step_command hrun hbox).trans (acceptCommand_error hdec), ?_⟩
  obtain ⟨hdone, hin, hstatus, hfcmd, hkeep, -⟩ :=
    endsFatal_raiseFatal s w { code := .enc, info0 := 0, info1 := 0, info2 := 0 }
  exact ⟨hkeep, hstatus, rfl, hfcmd, rfl, rfl, rfl, hdone, hin⟩

end Sys2Proof.Machine
end

section
/-! PROOFS. The register-file commands: what a Register File put in the place of another leaves alone, CTXINIT, VFCOPY and
the moves between the register files (40_regfile_ops.md). -/

namespace Sys2Proof.Machine

/-- A register step that keeps `RNG` writes registers of its own context alone. -/
theorem RegStep.frame {c : Ctx} {s t : State} (h : RegStep c s t) (hrng : t.rng = s.rng) : Frame (contextLocs c) s t := by
  refine ⟨fun l hl => h.peek hl fun _ => hrng, ?_, ?_, ?_⟩ <;> rw [h.rest]

/-- Settles O21: CTXINIT puts one Register File in the place of another; the hardwired registers read their constants
whatever is stored. -/
theorem contextInit : Obligations.ContextInit := by
  intro c s
  have hstep : RegStep c s (s.setBank c (Context.anyFrom s.any)) := .setBank _ _ _ fun _ => by simp [Context.anyFrom]
  exact ⟨_, rfl, hstep.frame rfl, State.x_zero .., State.vf_zero ..⟩

/-- The vector bank of one context put in the place of another's. -/
theorem frame_setBank_vf (s : State) (c : Ctx) (v : Vector Quad 32) :
    Frame {l | ∃ r, l = .vf c r} s (s.setBank c { s.bank c with vf := v }) := by
  refine ⟨fun l hl => ?_, rfl, rfl, rfl⟩
  by_cases hc : l.context = some c
  · cases l with
    | vf d r => cases hc; exact absurd ⟨r, rfl⟩ hl
    | _ => cases hc <;> simp [State.peek, State.x, State.f, State.acc, State.q, State.i, State.hi, State.lo]
  · have hstep : RegStep c s (s.setBank c { s.bank c with vf := v }) := .setBank _ _ _ id
    exact hstep.peek hc fun _ => rfl

@[simp] theorem State.setBank_bank (s : State) (c : Ctx) : s.setBank c (s.bank c) = s := by
  simp [State.setBank, State.bank]

/-- Settles O22: the copied bank holds the source's storage, and a context's own bank put in its place changes nothing. -/
theorem vectorBankCopy : Obligations.VectorBankCopy := by
  refine fun c sc s => ⟨_, rfl, frame_setBank_vf .., fun r => ?_, fun hsc => ?_⟩
  · simp [State.vfStored]
  · subst hsc; exact State.setBank_bank ..

theorem wrap32_toNat (w : Word) : wrap32 w.toNat = w.toInt := (BitVec.toInt_eq_toNat_bmod w).symm

/-- Settles O20: each move is one write of one register; MFC1's is sign-extended to 64 bits. -/
theorem registerMoves : Obligations.RegisterMoves := by
  intro c rd rs s
  refine ⟨⟨_, rfl, rfl⟩, ⟨_, rfl, writesD0_setXD _ _ _ _ _ ?_⟩, ⟨_, rfl, frame_setF .., ?_⟩, ⟨_, rfl, writesX_setX ..⟩,
    ⟨_, rfl, frame_setVf .., ?_⟩⟩
  · rw [wrap32_toNat]; exact sext64_toNat _ (by decide)
  · rw [State.f_setF, if_pos ⟨rfl, rfl⟩]; exact xw_toNat ..
  · rw [State.vfStored_setVf, if_pos ⟨rfl, rfl⟩]

end Sys2Proof.Machine
end

section
/-! PROOFS. Scalar results: an integer the rules name, its bits and the register write that puts them in `.d[0]`
(41_scalar_alu.md, 00_scope.md R10). -/

namespace Sys2Proof.Machine

/-! What a command reads: the model's register accessors and the integers of the rules. -/

theorem lowU_32_x (s : State) (c : Ctx) (r : Reg) : lowU 32 (s.x c r) = (s.xw c r).toNat := (xw_toNat ..).symm
theorem lowU_64_x (s : State) (c : Ctx) (r : Reg) : lowU 64 (s.x c r) = (s.xd c r).toNat := (xd_toNat ..).symm

theorem lowS_32_x (s : State) (c : Ctx) (r : Reg) : lowS 32 (s.x c r) = (s.xw c r).toInt := by
  rw [BitVec.toInt_eq_toNat_bmod, xw_toNat, Int.natCast_mod, Int.emod_bmod, lowS]

theorem lowS_64_x (s : State) (c : Ctx) (r : Reg) : lowS 64 (s.x c r) = (s.xd c r).toInt := by
  rw [BitVec.toInt_eq_toNat_bmod, xd_toNat, Int.natCast_mod, Int.emod_bmod, lowS]

theorem immZ64_toNat (imm : BitVec 16) : (immZ64 imm).toNat = imm.toNat := BitVec.toNat_setWidth_of_le (by decide)

theorem immS64_toInt (imm : BitVec 16) : (immS64 imm).toInt = imm.toInt := BitVec.toInt_signExtend_of_le (by decide)

theorem immS64_toNat (imm : BitVec 16) : ((immS64 imm).toNat : Int) = imm.toInt % 2 ^ 64 := by
  have hext : (immS64 imm).toNat = (imm.toInt % 2 ^ 64).toNat := sext64_toNat imm (by decide)
  omega

theorem ofInt_32_imm (imm : BitVec 16) : BitVec.ofInt 32 imm.toInt = imm32 imm := rfl
theorem ofInt_64_imm (imm : BitVec 16) : BitVec.ofInt 64 imm.toInt = immS64 imm := rfl

/-- LUI's word: the immediate in the upper half (41_scalar_alu.md R174). -/
theorem ofInt_imm_upper (imm : BitVec 16) : BitVec.ofInt 32 ((imm.toNat : Int) * 2 ^ 16) = imm ++ (0 : BitVec 16) := by
  have himm := imm.isLt
  apply BitVec.eq_of_toNat_eq
  rw [BitVec.toNat_ofInt, BitVec.toNat_append, BitVec.ofNat_eq_ofNat, BitVec.toNat_zero, Nat.or_zero, Nat.shiftLeft_eq]
  omega

/-! Integers as bit patterns of any width. -/

theorem ofInt_toNat {n : Nat} (w : BitVec n) : BitVec.ofInt n w.toNat = w := by
  rw [BitVec.ofInt_natCast, BitVec.ofNat_toNat, BitVec.setWidth_eq]

theorem ofInt_sub {n : Nat} (a b : Int) : BitVec.ofInt n (a - b) = BitVec.ofInt n a - BitVec.ofInt n b := by
  rw [Int.sub_eq_add_neg, BitVec.ofInt_add, BitVec.ofInt_neg, BitVec.sub_eq_add_neg]

theorem ofInt_mul_two_pow {n : Nat} (w : BitVec n) (k : Nat) : BitVec.ofInt n (w.toNat * 2 ^ k : Nat) = w <<< k := by
  rw [BitVec.ofInt_natCast, ← Nat.shiftLeft_eq]; rfl

theorem ofInt_div_two_pow {n : Nat} (w : BitVec n) (k : Nat) : BitVec.ofInt n (w.toNat / 2 ^ k : Nat) = w >>> k := by
  rw [← Nat.shiftRight_eq_div_pow, ← BitVec.toNat_ushiftRight, ofInt_toNat]

theorem toInt_sshiftRight_eq_div {n : Nat} (w : BitVec n) (k : Nat) : (w.sshiftRight k).toInt = w.toInt / 2 ^ k := by
  rw [BitVec.toInt_sshiftRight, Int.shiftRight_eq_div_pow, Int.natCast_pow, Int.cast_ofNat_Int]

/-- The sign-extended low word of an integer is its `wrap32`. -/
theorem sext64_ofInt (v : Int) : sext64 (BitVec.ofInt 32 v) = BitVec.ofInt 64 (wrap32 v) := by
  rw [wrap32, ← BitVec.toInt_ofInt]; rfl

/-! Commands whose next state is one write of `.d[0]`: the written bits, against the integer of the rule. -/

section
variable {s : State} {c : Ctx} {r : Reg}

/-- The bits of an integer modulo 2^64. -/
theorem completes_setXD {d : Dword} {v : Int} (h : BitVec.ofInt 64 v = d) :
    Completes (.next (s.setXD c r d)) (WritesD0 c r v s) :=
  ⟨_, rfl, writesD0_setXD _ _ _ _ _ (by rw [← h, BitVec.toNat_ofInt]; norm_num)⟩

/-- A natural number below 2^64. -/
theorem completes_setXD_toNat {d : Dword} {n : Nat} (h : d.toNat = n) :
    Completes (.next (s.setXD c r d)) (WritesD0 c r n s) := completes_setXD (h ▸ ofInt_toNat d)

/-- A signed 64-bit number. -/
theorem completes_setXD_toInt {d : Dword} {v : Int} (h : d.toInt = v) :
    Completes (.next (s.setXD c r d)) (WritesD0 c r v s) := completes_setXD (h ▸ BitVec.ofInt_toInt)

/-- The bits of an integer modulo 2^32, sign-extended. -/
theorem completes_setXD_sext64 {w : Word} {v : Int} (h : BitVec.ofInt 32 v = w) :
    Completes (.next (s.setXD c r (sext64 w))) (WritesD0 c r (wrap32 v) s) :=
  completes_setXD (h ▸ (sext64_ofInt v).symm)

/-- A signed 32-bit number, sign-extended. -/
theorem completes_setXD_sext64_toInt {w : Word} {v : Int} (h : w.toInt = v) :
    Completes (.next (s.setXD c r (sext64 w))) (WritesD0 c r v s) :=
  completes_setXD_toInt ((BitVec.toInt_signExtend_of_le (by decide)).trans h)

/-- The outcome of a compare. -/
theorem completes_setXD_flag64 {b : Bool} {p : Prop} [Decidable p] (h : b = true ↔ p) :
    Completes (.next (s.setXD c r (flag64 b))) (WritesD0 c r (if p then 1 else 0) s) := by
  refine completes_setXD ?_
  by_cases hp : p
  · rw [if_pos hp, h.mpr hp]; rfl
  · rw [if_neg hp, Bool.eq_false_iff.mpr (mt h.mp hp)]; rfl

end

/-- Settles O23: sums and differences of words are those of the integers modulo 2^n. -/
theorem addsAndSubtracts : Obligations.AddsAndSubtracts := by
  intro c rd rs rt imm s
  simp only [lowU_32_x, lowU_64_x]
  refine ⟨completes_setXD_sext64 ?addu, completes_setXD_sext64 ?subu, completes_setXD_sext64 ?addiu,
    completes_setXD ?daddu, completes_setXD ?dsubu, completes_setXD ?daddiu, completes_setXD_sext64 ?lui⟩
  case addu | daddu => rw [BitVec.ofInt_add, ofInt_toNat, ofInt_toNat]
  case subu | dsubu => rw [ofInt_sub, ofInt_toNat, ofInt_toNat]
  case addiu => rw [BitVec.ofInt_add, ofInt_toNat, ofInt_32_imm]
  case daddiu => rw [BitVec.ofInt_add, ofInt_toNat, ofInt_64_imm]
  case lui => exact ofInt_imm_upper imm

/-- Settles O24: each command is the same operation on the natural numbers the doublewords stand for. -/
theorem bitwiseLogic : Obligations.BitwiseLogic := by
  intro c rd rs rt imm s
  simp only [lowU_64_x, ← immZ64_toNat imm]
  exact ⟨completes_setXD_toNat (BitVec.toNat_and ..), completes_setXD_toNat (BitVec.toNat_or ..),
    completes_setXD_toNat (BitVec.toNat_xor ..),
    completes_setXD_toNat (BitVec.toNat_not.trans (congrArg _ (BitVec.toNat_or ..))),
    completes_setXD_toNat (BitVec.toNat_and ..), completes_setXD_toNat (BitVec.toNat_or ..),
    completes_setXD_toNat (BitVec.toNat_xor ..)⟩

/-- Settles O25: a left shift multiplies and a right shift divides by 2^k, whether k is an immediate or a register's. -/
theorem shifts32 : Obligations.Shifts32 := by
  intro c rd rs rt sa s
  simp only [lowU_32_x, lowS_32_x]
  exact ⟨completes_setXD_sext64 (ofInt_mul_two_pow ..), completes_setXD_sext64 (ofInt_div_two_pow ..),
    completes_setXD_sext64_toInt (toInt_sshiftRight_eq_div ..), completes_setXD_sext64 (ofInt_mul_two_pow ..),
    completes_setXD_sext64 (ofInt_div_two_pow ..), completes_setXD_sext64_toInt (toInt_sshiftRight_eq_div ..)⟩

/-- Settles O26, by the same facts at width 64; no sign extension follows. -/
theorem shifts64 : Obligations.Shifts64 := by
  intro c rd rs rt sa s
  simp only [lowU_32_x, lowU_64_x, lowS_64_x]
  exact ⟨completes_setXD (ofInt_mul_two_pow ..), completes_setXD (ofInt_div_two_pow ..),
    completes_setXD_toInt (toInt_sshiftRight_eq_div ..), completes_setXD (ofInt_mul_two_pow ..),
    completes_setXD (ofInt_div_two_pow ..), completes_setXD_toInt (toInt_sshiftRight_eq_div ..)⟩

/-- A conditional move: where its condition `p` fails, no write at all (41_scalar_alu.md R191, R192). -/
theorem completes_ite_setXD {s : State} {c : Ctx} {r : Reg} {d : Dword} {p q : Prop} [Decidable p] (hq : q ↔ ¬p) :
    Completes (.next (if p then s.setXD c r d else s))
      (fun t => (p → WritesD0 c r d.toNat s t) ∧ (q → t = s)) := by
  refine ⟨_, rfl, fun hp => ?_, fun h => if_neg (hq.mp h)⟩
  rw [if_pos hp]
  exact writesD0_setXD _ _ _ _ _ (by have := d.isLt; omega)

/-- Settles O27: a compare of bits is the order of the integers they stand for; a conditional move tests the whole
doubleword for 0. -/
theorem comparesAndConditionalMoves : Obligations.ComparesAndConditionalMoves := by
  intro c rd rs rt imm s
  have hzero : (s.xd c rt).toNat = 0 ↔ s.xd c rt = 0 := BitVec.toNat_inj (y := 0)
  simp only [lowU_64_x, lowS_64_x, ne_eq, hzero]
  refine ⟨completes_setXD_flag64 BitVec.slt_iff_toInt_lt, completes_setXD_flag64 BitVec.ult_iff_toNat_lt,
    completes_setXD_flag64 ?slti, completes_setXD_flag64 ?sltiu, completes_ite_setXD not_not.symm,
    completes_ite_setXD .rfl⟩
  case slti => rw [← immS64_toInt]; exact BitVec.slt_iff_toInt_lt
  case sltiu => rw [← immS64_toNat, Int.ofNat_lt]; exact BitVec.ult_iff_toNat_lt

end Sys2Proof.Machine
end

section
/-! PROOFS. The aligned loads and the stores: one transfer of an access inside the arena, then the register write or the
bytes stored (42_scalar_mem.md R200, R201, R203 to R209, R214 to R222). -/

namespace Sys2Proof.Machine

/-- A load inside the arena leaves what its register write leaves: the transfer's record is no piece of state. -/
theorem completes_load {i : Instr} {ea a n : Nat} {put : Nat → State → State} {s : State} {w : Set Loc}
    {p : State → Prop} (ha : a % n = 0) (hin : a + n ≤ s.cfg.arenaSize)
    (hput : ∀ ts, Frame w (s.logTransfers ts) (put (s.arena.read a n) (s.logTransfers ts)) ∧
      p (put (s.arena.read a n) (s.logTransfers ts))) :
    Completes (loadOp i ea a n put s) fun t => Frame w s t ∧ p t :=
  ⟨_, loadOp_next i put s ha hin, (hput _).1.after_log, (hput _).2⟩

/-- A load into `.d[0]`: the written bits, against the integer of the rule. -/
theorem completes_load_setXD {i : Instr} {ea n : Nat} {value : Nat → Dword} {s : State} {c : Ctx} {r : Reg} {v : Int}
    (hfits : ea % n = 0 ∧ ea + n ≤ s.cfg.arenaSize) (hv : BitVec.ofInt 64 v = value (s.arena.read ea n)) :
    Completes (loadOp i ea ea n (fun b t => t.setXD c r (value b)) s) (WritesD0 c r v s) :=
  completes_load hfits.1 hfits.2 fun ts =>
    writesD0_setXD (s.logTransfers ts) c r _ v (by rw [← hv, BitVec.toNat_ofInt]; norm_num)

theorem ofInt_bmod_eq_sext64 (n v : Nat) : BitVec.ofInt 64 (Int.bmod v (2 ^ n)) = sext64 (BitVec.ofNat n v) := by
  rw [← BitVec.toInt_ofNat]; rfl

/-- The bytes read fit the width that takes them. -/
theorem toNat_ofNat_read {w n : Nat} (hw : 256 ^ n ≤ 2 ^ w) (m : Memory) (a : Nat) :
    (BitVec.ofNat w (m.read a n)).toNat = m.read a n := by
  rw [BitVec.toNat_ofNat, Nat.mod_eq_of_lt ((m.read_lt a n).trans_le hw)]

theorem ofInt_read_eq_zext64 {w n : Nat} (hw : 256 ^ n ≤ 2 ^ w) (m : Memory) (a : Nat) :
    BitVec.ofInt 64 (m.read a n) = zext64 (BitVec.ofNat w (m.read a n)) := by
  rw [zext64, BitVec.ofInt_natCast, ← BitVec.ofNat_toNat, toNat_ofNat_read hw]

/-- Settles O29: the signed loads extend by sign, the unsigned ones by 0, and LD takes the doubleword whole. -/
theorem narrowLoads : Obligations.NarrowLoads := by
  intro c rt base off s
  simp only [exec, execLb, execLbu, execLh, execLhu, execLw, execLd, ← Memory.read_eq_leBytes]
  refine ⟨fun h => completes_load_setXD h ?lb, fun h => completes_load_setXD h ?lbu,
    fun h => completes_load_setXD h ?lh, fun h => completes_load_setXD h ?lhu,
    fun h => completes_load_setXD h ?lw, fun h => completes_load_setXD h ?ld⟩
  case lb | lh | lw => exact ofInt_bmod_eq_sext64 ..
  case lbu | lhu => exact ofInt_read_eq_zext64 (by decide) ..
  case ld => exact BitVec.ofInt_natCast ..

/-- Settles O30: each load is one write of a whole register of its file. -/
theorem fileLoads : Obligations.FileLoads := by
  intro c rt base off s
  simp only [exec, execLq, execLwc1, execLqc2]
  refine ⟨fun ha hin => completes_load ha hin fun ts => ⟨frame_setX .., ?_⟩,
    fun ha hin => completes_load ha hin fun ts => ⟨frame_setF .., ?_⟩,
    fun ha hin => completes_load ha hin fun ts => ⟨frame_setVf .., ?_⟩⟩
  · rw [(writesX_setX ..).2, apply_ite BitVec.toNat, toNat_read16]; rfl
  · rw [State.f_setF, if_pos ⟨rfl, rfl⟩, toNat_ofNat_read (by decide), Memory.read_eq_leBytes]
  · rw [State.vfStored_setVf, if_pos ⟨rfl, rfl⟩, toNat_read16]

/-- A store inside the arena: its own bytes hold the value's low bytes (20_memory.md R94). -/
theorem completes_store {i : Instr} {ea n : Nat} {q : Quad} {s : State} (hwf : s.arena.wf = true) (ha : ea % n = 0)
    (hin : ea + n ≤ s.cfg.arenaSize) :
    Completes (storeOp i ea n q s) fun t =>
      Frame (arenaLocs ea n) s t ∧ leBytes t.arena ea n = q.toNat % 256 ^ n := by
  have hnext := storeOp_next i q s ha hin
  refine ⟨_, hnext, frame_storeOp i q s _ ha hin hwf hnext, ?_⟩
  rw [State.arena_logTransfers, State.arena_memWrite, ← Memory.read_eq_leBytes, Memory.read_write hwf]

/-- Settles O31: SWC1 and the quadword stores write every byte of their register, the others its low bytes. -/
theorem stores : Obligations.Stores := by
  intro c rt base off s hwf
  have hquad (q : Quad) : q.toNat % 256 ^ 16 = q.toNat := Nat.mod_eq_of_lt q.isLt
  have hfloat : ((s.f c rt).setWidth 128).toNat % 256 ^ 4 = (s.f c rt).toNat := by
    rw [BitVec.toNat_setWidth_of_le (by decide)]
    exact Nat.mod_eq_of_lt (s.f c rt).isLt
  refine ⟨completes_store hwf, completes_store hwf, completes_store hwf, completes_store hwf, ?_, ?_, ?_⟩
  · rw [← hquad (s.x c rt)]; exact completes_store hwf
  · rw [← hfloat]; exact completes_store hwf
  · rw [← hquad (s.vf c rt)]; exact completes_store hwf

end Sys2Proof.Machine
end

section
/-! PROOFS. The unaligned loads byte by byte: the tables say of each byte of the register whether it is kept and which
byte of the aligned word or doubleword it takes (42_scalar_mem.md R202, R210 to R213). -/

namespace Sys2Proof.Machine

/-! The bytes of a word or a doubleword. -/

/-- Byte `k` of a word or a doubleword, byte 0 the least significant. -/
def byteOf {w : Nat} (v : BitVec w) (k : Nat) : Byte := v.extractLsb' (8 * k) 8

theorem getLsbD_byteOf {w : Nat} (v : BitVec w) (k j : Nat) :
    (byteOf v k).getLsbD j = (decide (j < 8) && v.getLsbD (8 * k + j)) := by
  simp [byteOf, BitVec.getLsbD_extractLsb']

theorem byteOf_toNat {w : Nat} (v : BitVec w) (k : Nat) : (byteOf v k).toNat = v.toNat / 2 ^ (8 * k) % 2 ^ 8 := by
  rw [byteOf, BitVec.extractLsb'_toNat, Nat.shiftRight_eq_div_pow]

theorem byteOf_merge {w : Nat} (old mask new : BitVec w) (k : Nat) :
    byteOf ((old &&& mask) ||| new) k = (byteOf old k &&& byteOf mask k) ||| byteOf new k := by
  rw [byteOf, BitVec.extractLsb'_or, BitVec.extractLsb'_and]; rfl

/-- A left shift by whole bytes moves each byte up; the bytes below are 0. -/
theorem byteOf_shiftLeft {w k : Nat} (v : BitVec w) (j : Nat) (hk : 8 * (k + 1) ≤ w) :
    byteOf (v <<< (8 * j)) k = if k < j then 0 else byteOf v (k - j) := by
  apply BitVec.eq_of_getLsbD_eq
  intro b hb
  split
  · have hlow : 8 * k + b < 8 * j := by omega
    simp [getLsbD_byteOf, hlow]
  · have hw : 8 * k + b < w := by omega
    have hhigh : ¬ 8 * k + b < 8 * j := by omega
    have hsub : 8 * k + b - 8 * j = 8 * (k - j) + b := by omega
    simp only [getLsbD_byteOf, BitVec.getLsbD_shiftLeft, hw, hhigh, hsub, decide_true, decide_false, Bool.not_false,
      Bool.true_and]

/-- A right shift by whole bytes moves each byte down. -/
theorem byteOf_ushiftRight {w : Nat} (v : BitVec w) (j k : Nat) : byteOf (v >>> (8 * j)) k = byteOf v (k + j) := by
  apply BitVec.eq_of_getLsbD_eq
  intro b hb
  have hadd : 8 * j + (8 * k + b) = 8 * (k + j) + b := by omega
  simp [getLsbD_byteOf, hadd]

/-- Past the width every byte is 0. -/
theorem byteOf_of_le {w k : Nat} (v : BitVec w) (hk : w ≤ 8 * k) : byteOf v k = 0 := by
  apply BitVec.eq_of_getLsbD_eq
  intro b hb
  simp [getLsbD_byteOf, BitVec.getLsbD_of_ge v (8 * k + b) (by omega)]

theorem byteOf_read {w n : Nat} (hw : w = 8 * n) (m : Memory) (a : Nat) {k : Nat} (hk : k < n) :
    byteOf (BitVec.ofNat w (m.read a n)) k = m.byteAt (a + k) := by
  have hpow : 256 ^ n = 2 ^ w := by rw [hw, pow_mul]; rfl
  apply BitVec.eq_of_toNat_eq
  rw [byteOf_toNat, toNat_ofNat_read hpow.le, pow_mul]
  exact m.read_digit a n k hk

theorem byteOf_sext64 (w : Word) {k : Nat} (hk : k < 4) : byteOf (sext64 w) k = byteOf w k := by
  apply BitVec.eq_of_getLsbD_eq
  intro b hb
  have h32 : 8 * k + b < 32 := by omega
  have h64 : 8 * k + b < 64 := by omega
  simp only [getLsbD_byteOf, sext64, BitVec.getLsbD_signExtend, h32, h64, decide_true, Bool.true_and, if_true]

/-! The tables (42_scalar_mem.md R202). -/

/-- What the tables say of a left load of `n` bytes at shift amount `sh`. -/
def LeftTable {w : Nat} (n sh : Nat) (mask : BitVec w) (shift : Nat) : Prop :=
  shift = 8 * (n - 1 - sh) ∧ ∀ k < n, byteOf mask k = if k + sh < n - 1 then BitVec.allOnes 8 else 0

/-- What the tables say of a right load of `n` bytes at shift amount `sh`. -/
def RightTable {w : Nat} (n sh : Nat) (mask : BitVec w) (shift : Nat) : Prop :=
  shift = 8 * sh ∧ ∀ k < n, byteOf mask k = if k + sh < n then 0 else BitVec.allOnes 8

theorem leftTable_lwl : ∀ sh < 4, LeftTable 4 sh (lwlMask sh) (lwlShift sh) := by unfold LeftTable; decide
theorem rightTable_lwr : ∀ sh < 4, RightTable 4 sh (lwrMask sh) (lwrShift sh) := by unfold RightTable; decide
theorem leftTable_ldl : ∀ sh < 8, LeftTable 8 sh (ldlMask sh) (ldlShift sh) := by unfold LeftTable; decide
theorem rightTable_ldr : ∀ sh < 8, RightTable 8 sh (ldrMask sh) (ldrShift sh) := by unfold RightTable; decide

section
variable {w n sh k shift : Nat} {old mask mem : BitVec w} (hw : w = 8 * n) (hk : k < n)
include hw hk

theorem LeftTable.byteOf_merge (h : LeftTable n sh mask shift) (hsh : sh < n) :
    byteOf ((old &&& mask) ||| mem <<< shift) k =
      if k + sh < n - 1 then byteOf old k else byteOf mem (k + sh - (n - 1)) := by
  obtain ⟨rfl, hmask⟩ := h
  rw [Machine.byteOf_merge, hmask k hk, byteOf_shiftLeft _ _ (by omega)]
  by_cases hkeep : k + sh < n - 1
  · rw [if_pos hkeep, if_pos hkeep, if_pos (by omega), BitVec.and_allOnes]
    exact BitVec.or_zero
  · rw [if_neg hkeep, if_neg hkeep, if_neg (by omega), show k - (n - 1 - sh) = k + sh - (n - 1) by omega]
    simp

theorem RightTable.byteOf_merge (h : RightTable n sh mask shift) :
    byteOf ((old &&& mask) ||| mem >>> shift) k = if k + sh < n then byteOf mem (k + sh) else byteOf old k := by
  obtain ⟨rfl, hmask⟩ := h
  rw [Machine.byteOf_merge, hmask k hk, byteOf_ushiftRight]
  by_cases htake : k + sh < n
  · rw [if_pos htake, if_pos htake]
    simp
  · rw [if_neg htake, if_neg htake, byteOf_of_le mem (by omega), BitVec.and_allOnes]
    exact BitVec.or_zero

end

/-! The bytes of a register. -/

theorem laneU_setD0 (q : Quad) (d : Dword) {k : Nat} (hk : k < 8) : laneU 8 (setD0 q d) k = (byteOf d k).toNat := by
  rw [laneU, setD0_toNat, byteOf_toNat]
  interval_cases k <;> omega

theorem laneU_setW0 (q : Quad) (w : Word) {k : Nat} (hk : k < 4) : laneU 8 (setW0 q w) k = (byteOf w k).toNat := by
  rw [laneU, setW0_toNat, byteOf_toNat]
  interval_cases k <;> omega

theorem byteOf_d0 (q : Quad) {k : Nat} (hk : k < 8) : (byteOf (d0 q) k).toNat = laneU 8 q k := by
  rw [laneU, byteOf_toNat, d0_toNat]
  interval_cases k <;> omega

theorem byteOf_w0 (q : Quad) {k : Nat} (hk : k < 4) : (byteOf (w0 q) k).toNat = laneU 8 q k := by
  rw [laneU, byteOf_toNat, w0_toNat]
  interval_cases k <;> omega

theorem laneU_setD0_high (q : Quad) (d : Dword) : laneU 64 (setD0 q d) 1 = laneU 64 q 1 := by
  simp only [laneU_eq_lane, setD0_high]

theorem laneU_setW0_high (q : Quad) (w : Word) :
    laneU 32 (setW0 q w) 1 = laneU 32 q 1 ∧ laneU 64 (setW0 q w) 1 = laneU 64 q 1 := by
  have hw := w.isLt
  simp only [laneU, setW0_toNat]
  omega

theorem w0_setD0_sext64 (q : Quad) (w : Word) : w0 (setD0 q (sext64 w)) = w := by
  have hw := w.isLt
  apply BitVec.eq_of_toNat_eq
  rw [w0_toNat, setD0_toNat, sext64_toNat w (by decide), BitVec.toInt_eq_toNat_cond]
  omega

/-! What an unaligned load leaves. -/

/-- `t` is `s` with the low `n` bytes of `x[r]` written, byte `k` as `byte k`; bits 127:64 are kept. -/
def LoadsBytes (c : Ctx) (r : Reg) (n : Nat) (byte : Nat → Nat) (s t : State) : Prop :=
  Frame {.x c r} s t ∧ (∀ k, k < n → laneU 8 (t.x c r) k = byte k) ∧ laneU 64 (t.x c r) 1 = laneU 64 (s.x c r) 1

/-- Byte `k` of the register after a left load: the low bytes kept, the memory's bytes up to `ea` above them (R210,
R212). -/
def leftByte (s : State) (c : Ctx) (r : Reg) (n ea k : Nat) : Nat :=
  if k + ea % n < n - 1 then laneU 8 (s.x c r) k else (s.arena.byteAt (ea + k - (n - 1))).toNat

/-- Byte `k` of the register after a right load: the memory's bytes from `ea` on, the high bytes kept above them (R211,
R213). -/
def rightByte (s : State) (c : Ctx) (r : Reg) (n ea k : Nat) : Nat :=
  if k + ea % n < n then (s.arena.byteAt (ea + k)).toNat else laneU 8 (s.x c r) k

/-- The aligned access of an unaligned load lies in the arena (42_scalar_mem.md R200). -/
def AlignedInside (s : State) (ea n : Nat) : Prop := ea - ea % n + n ≤ s.cfg.arenaSize

section
variable {w n ea k shift : Nat} {s : State} {c : Ctx} {r : Reg} {old mask : BitVec w} (hw : w = 8 * n) (hk : k < n)
  (hold : (byteOf old k).toNat = laneU 8 (s.x c r) k)
include hw hk hold

theorem LeftTable.toNat_merge (h : LeftTable n (ea % n) mask shift) :
    (byteOf ((old &&& mask) ||| BitVec.ofNat w (s.arena.read (alignDown ea n) n) <<< shift) k).toNat =
      leftByte s c r n ea k := by
  have hsh : ea % n < n := Nat.mod_lt _ (by omega)
  have hle := Nat.mod_le ea n
  rw [h.byteOf_merge hw hk hsh, leftByte, alignDown]
  split
  · exact hold
  · rw [byteOf_read hw _ _ (by omega), show ea - ea % n + (k + ea % n - (n - 1)) = ea + k - (n - 1) by omega]

theorem RightTable.toNat_merge (h : RightTable n (ea % n) mask shift) :
    (byteOf ((old &&& mask) ||| BitVec.ofNat w (s.arena.read (alignDown ea n) n) >>> shift) k).toNat =
      rightByte s c r n ea k := by
  have hle := Nat.mod_le ea n
  rw [h.byteOf_merge hw hk, rightByte, alignDown]
  split
  · rw [byteOf_read hw _ _ (by omega), show ea - ea % n + (k + ea % n) = ea + k by omega]
  · exact hold

end

section
variable {s : State} {c : Ctx} {r : Reg} (hr : r ≠ 0)
include hr

theorem loadsBytes_setXD {n : Nat} {byte : Nat → Nat} {d : Dword} (ts : List Transfer) (hn : n ≤ 8)
    (hbyte : ∀ k, k < n → (byteOf d k).toNat = byte k) :
    LoadsBytes c r n byte s ((s.logTransfers ts).setXD c r d) := by
  refine ⟨(frame_setXD ..).after_log, fun k hk => ?_, ?_⟩ <;> rw [x_setXD, if_neg hr]
  · rw [laneU_setD0 _ _ (hk.trans_le hn), hbyte k hk]
  · exact laneU_setD0_high ..

/-- A write of `.w[0]` keeps bits 63:32 besides. -/
theorem loadsBytes_setXW {n : Nat} {byte : Nat → Nat} {w : Word} (ts : List Transfer) (hn : n ≤ 4)
    (hbyte : ∀ k, k < n → (byteOf w k).toNat = byte k) :
    LoadsBytes c r n byte s ((s.logTransfers ts).setXW c r w) ∧
      laneU 32 (((s.logTransfers ts).setXW c r w).x c r) 1 = laneU 32 (s.x c r) 1 := by
  have hx : ((s.logTransfers ts).setXW c r w).x c r = setW0 (s.x c r) w := by simp [State.setXW, State.x_setX, hr]
  obtain ⟨hhigh32, hhigh64⟩ := laneU_setW0_high (s.x c r) w
  refine ⟨⟨(frame_setXW ..).after_log, fun k hk => ?_, ?_⟩, ?_⟩ <;> rw [hx]
  · rw [laneU_setW0 _ _ (hk.trans_le hn), hbyte k hk]
  · exact hhigh64
  · exact hhigh32

/-- A word sign-extended into `.d[0]` is one integer at both widths (00_scope.md R10). -/
theorem lowS_setXD_sext64 (w : Word) :
    lowS 64 ((s.setXD c r (sext64 w)).x c r) = lowS 32 ((s.setXD c r (sext64 w)).x c r) := by
  rw [lowS_64_x, lowS_32_x, State.xd, State.xw, x_setXD, if_neg hr, d0_setD0, w0_setD0_sext64]
  exact BitVec.toInt_signExtend_of_le (by decide)

end

section
variable {s : State} {c : Ctx} {rt base : Reg} {off : BitVec 16} (hr : rt ≠ 0)
include hr

theorem completes_lwl (hin : AlignedInside s (s.ea c base off) 4) :
    Completes (exec (.lwl c rt base off) s) fun t =>
      LoadsBytes c rt 4 (leftByte s c rt 4 (s.ea c base off)) s t ∧ lowS 64 (t.x c rt) = lowS 32 (t.x c rt) := by
  have htable := leftTable_lwl (s.ea c base off % 4) (Nat.mod_lt _ (by decide))
  rw [exec, execLwl]
  refine ⟨_, loadOp_next _ _ s (alignDown_mod ..) hin, loadsBytes_setXD hr _ (by decide) fun k hk => ?_,
    lowS_setXD_sext64 hr _⟩
  rw [byteOf_sext64 _ hk]
  exact htable.toNat_merge rfl hk (byteOf_w0 _ hk)

theorem completes_lwr (hin : AlignedInside s (s.ea c base off) 4) :
    Completes (exec (.lwr c rt base off) s) fun t =>
      LoadsBytes c rt 4 (rightByte s c rt 4 (s.ea c base off)) s t ∧
        if s.ea c base off % 4 = 0 then lowS 64 (t.x c rt) = lowS 32 (t.x c rt)
        else laneU 32 (t.x c rt) 1 = laneU 32 (s.x c rt) 1 := by
  have htable := rightTable_lwr (s.ea c base off % 4) (Nat.mod_lt _ (by decide))
  have hbyte := fun k (hk : k < 4) => htable.toNat_merge rfl hk (byteOf_w0 (s.x c rt) hk)
  rw [exec, execLwr]
  refine ⟨_, loadOp_next _ _ s (alignDown_mod ..) hin, ?_⟩
  by_cases hsh : s.ea c base off % 4 = 0
  · simp only [if_pos hsh]
    refine ⟨loadsBytes_setXD hr _ (by decide) fun k hk => ?_, lowS_setXD_sext64 hr _⟩
    rw [byteOf_sext64 _ hk]
    exact hbyte k hk
  · simp only [if_neg hsh]
    exact loadsBytes_setXW hr _ (by decide) hbyte

theorem completes_ldl (hin : AlignedInside s (s.ea c base off) 8) :
    Completes (exec (.ldl c rt base off) s) (LoadsBytes c rt 8 (leftByte s c rt 8 (s.ea c base off)) s) := by
  have htable := leftTable_ldl (s.ea c base off % 8) (Nat.mod_lt _ (by decide))
  rw [exec, execLdl]
  exact ⟨_, loadOp_next _ _ s (alignDown_mod ..) hin, loadsBytes_setXD hr _ (by decide) fun k hk =>
    htable.toNat_merge rfl hk (byteOf_d0 _ hk)⟩

theorem completes_ldr (hin : AlignedInside s (s.ea c base off) 8) :
    Completes (exec (.ldr c rt base off) s) (LoadsBytes c rt 8 (rightByte s c rt 8 (s.ea c base off)) s) := by
  have htable := rightTable_ldr (s.ea c base off % 8) (Nat.mod_lt _ (by decide))
  rw [exec, execLdr]
  exact ⟨_, loadOp_next _ _ s (alignDown_mod ..) hin, loadsBytes_setXD hr _ (by decide) fun k hk =>
    htable.toNat_merge rfl hk (byteOf_d0 _ hk)⟩

end

/-- Settles O32: the bytes of LWL and LWR by their tables, the extension by the register write each ends in. -/
theorem unalignedWordLoads : Obligations.UnalignedWordLoads := by
  intro c rt base off s hr ea sh hin
  obtain ⟨t, hlwl, ⟨hframe, hbytes, hupper⟩, hext⟩ := completes_lwl hr hin
  obtain ⟨u, hlwr, ⟨hframe', hbytes', hupper'⟩, hext'⟩ := completes_lwr hr hin
  exact ⟨⟨t, hlwl, hframe, hbytes, hext, hupper⟩, ⟨u, hlwr, hframe', hbytes', hext', hupper'⟩⟩

/-- Settles O33: the bytes of LDL and LDR by their tables. -/
theorem unalignedDwordLoads : Obligations.UnalignedDwordLoads := fun _ _ _ _ _ hr hin =>
  ⟨completes_ldl hr hin, completes_ldr hr hin⟩

end Sys2Proof.Machine
end

section
/-! PROOFS. The two halves of an unaligned load together: each byte of the result is taken by one of them, and a pair is
fatal where one of its aligned accesses leaves the arena (42_scalar_mem.md R224). -/

namespace Sys2Proof.Machine

theorem Completes.imp {r : Res} {p q : State → Prop} (h : Completes r p) (hpq : ∀ t, p t → q t) : Completes r q := by
  obtain ⟨t, hr, hp⟩ := h
  exact ⟨t, hr, hpq t hp⟩

/-! Values of a register: their bytes and their signs. -/

theorem lowU_eq_sum_laneU (v : Quad) (n : Nat) : lowU (8 * n) v = ∑ k ∈ Finset.range n, laneU 8 v k * 256 ^ k := by
  induction n with
  | zero => simp [lowU, Nat.mod_one]
  | succ n ih =>
    rw [Finset.sum_range_succ, ← ih, lowU, lowU, laneU, Nat.mul_succ, Nat.pow_add, Nat.mod_mul, pow_mul]
    ring

theorem lowS_eq_bmod_lowU (n : Nat) (v : Quad) : lowS n v = Int.bmod (lowU n v) (2 ^ n) := by
  have hmod := Int.emod_bmod (v.toNat : Int) (2 ^ n)
  rw [lowS, lowU, ← hmod]; push_cast; rfl

/-- A doubleword is its sign-extended low word where bits 63:32 are that word's sign (00_scope.md R10). -/
theorem lowS_64_eq_lowS_32_iff (q : Quad) :
    lowS 64 q = lowS 32 q ↔ laneU 32 q 1 = if laneU 8 q 3 < 128 then 0 else 2 ^ 32 - 1 := by
  have hdword : lowU 64 q = laneU 32 q 1 * 2 ^ 32 + lowU 32 q := by rw [lowU, laneU, lowU]; omega
  have hsign : laneU 8 q 3 = lowU 32 q / 2 ^ 24 := by rw [laneU, lowU]; omega
  have hword : lowU 32 q < 2 ^ 32 := Nat.mod_lt _ (by decide)
  have hhigh : laneU 32 q 1 < 2 ^ 32 := Nat.mod_lt _ (by decide)
  rw [lowS_eq_bmod_lowU, lowS_eq_bmod_lowU, hdword, hsign]
  generalize lowU 32 q = lo at *
  generalize laneU 32 q 1 = hi at *
  rw [Int.bmod_def, Int.bmod_def]
  split_ifs <;> omega

/-- A sign extension stays one while bits 63:32 and the byte that holds the sign are kept. -/
theorem lowS_64_eq_lowS_32_of_kept {q q' : Quad} (h : lowS 64 q = lowS 32 q) (hhigh : laneU 32 q' 1 = laneU 32 q 1)
    (hsign : laneU 8 q' 3 = laneU 8 q 3) : lowS 64 q' = lowS 32 q' := by
  rw [lowS_64_eq_lowS_32_iff] at h ⊢
  rw [hhigh, hsign, h]

/-! What the first load leaves for the second: the arena, the effective address and the bounds. -/

section
variable {c : Ctx} {rt base : Reg} {s t : State} (h : Frame {.x c rt} s t)
include h

theorem arena_byteAt_of_frame (a : Nat) : t.arena.byteAt a = s.arena.byteAt a := by
  have hnat := congrArg BitVec.toNat (h.1 (.arena a) (by simp))
  rw [State.peek, State.peek, BitVec.toNat_setWidth_of_le (by decide), BitVec.toNat_setWidth_of_le (by decide)] at hnat
  exact BitVec.eq_of_toNat_eq hnat

theorem ea_of_frame (hbase : base ≠ rt) (off : BitVec 16) : t.ea c base off = s.ea c base off := by
  have hx : t.x c base = s.x c base := h.1 (.x c base) (by simp [hbase])
  simp only [State.ea, State.xw, hx]

theorem alignedInside_of_frame (hbase : base ≠ rt) {off : BitVec 16} {n : Nat} :
    AlignedInside t (t.ea c base off) n ↔ AlignedInside s (s.ea c base off) n := by
  rw [AlignedInside, AlignedInside, ea_of_frame h hbase, h.2.1]

end

/-! Pairs inside the arena. -/

/-- `t` is `s` with the `n` bytes from `a` on loaded into `x[r]`. -/
def LoadsWhole (c : Ctx) (r : Reg) (n a : Nat) (s t : State) : Prop :=
  LoadsBytes c r n (fun k => (s.arena.byteAt (a + k)).toNat) s t

/-- `t` is `s` with the `n` bytes from `a` on loaded into `x[r]`, whose doubleword is then `ext`. -/
def LoadsValue (c : Ctx) (r : Reg) (n a : Nat) (ext : Int) (s t : State) : Prop :=
  Frame {.x c r} s t ∧ lowU (8 * n) (t.x c r) = leBytes s.arena a n ∧ lowS 64 (t.x c r) = ext ∧
    laneU 64 (t.x c r) 1 = laneU 64 (s.x c r) 1

section
variable {c : Ctx} {r : Reg} {n a : Nat} {s t u : State}

/-- What the right load keeps, the left load before it has loaded. -/
theorem LoadsWhole.of_left_right (hn : n = 4 ∨ n = 8) (hleft : LoadsBytes c r n (leftByte s c r n (a + (n - 1))) s t)
    (hright : LoadsBytes c r n (rightByte t c r n a) t u) : LoadsWhole c r n a s u := by
  obtain ⟨hst, hbytes, hupper⟩ := hleft
  obtain ⟨htu, hbytes', hupper'⟩ := hright
  refine ⟨hst.trans htu, fun k hk => ?_, hupper'.trans hupper⟩
  rw [hbytes' k hk, rightByte]
  split
  · rw [arena_byteAt_of_frame hst]
  · have hloaded : ¬ k + (a + (n - 1)) % n < n - 1 := by rcases hn with rfl | rfl <;> omega
    rw [hbytes k hk, leftByte, if_neg hloaded, show a + (n - 1) + k - (n - 1) = a + k by omega]

/-- What the left load keeps, the right load before it has loaded. -/
theorem LoadsWhole.of_right_left (hn : n = 4 ∨ n = 8) (hright : LoadsBytes c r n (rightByte s c r n a) s t)
    (hleft : LoadsBytes c r n (leftByte t c r n (a + (n - 1))) t u) : LoadsWhole c r n a s u := by
  obtain ⟨hst, hbytes, hupper⟩ := hright
  obtain ⟨htu, hbytes', hupper'⟩ := hleft
  refine ⟨hst.trans htu, fun k hk => ?_, hupper'.trans hupper⟩
  rw [hbytes' k hk, leftByte]
  split
  · have hloaded : k + a % n < n := by rcases hn with rfl | rfl <;> omega
    rw [hbytes k hk, rightByte, if_pos hloaded]
  · rw [arena_byteAt_of_frame hst, show a + (n - 1) + k - (n - 1) = a + k by omega]

theorem LoadsWhole.lowU_eq (h : LoadsWhole c r n a s t) : lowU (8 * n) (t.x c r) = leBytes s.arena a n := by
  rw [lowU_eq_sum_laneU, leBytes]
  exact Finset.sum_congr rfl fun k hk => by rw [h.2.1 k (Finset.mem_range.1 hk)]

theorem LoadsWhole.word (h : LoadsWhole c r 4 a s t) (hext : lowS 64 (t.x c r) = lowS 32 (t.x c r)) :
    LoadsValue c r 4 a (wrap32 (leBytes s.arena a 4)) s t :=
  ⟨h.1, h.lowU_eq, by rw [hext, lowS_eq_bmod_lowU, wrap32, ← h.lowU_eq], h.2.2⟩

theorem LoadsWhole.dword (h : LoadsWhole c r 8 a s t) :
    LoadsValue c r 8 a (Int.bmod (leBytes s.arena a 8) (2 ^ 64)) s t :=
  ⟨h.1, h.lowU_eq, by rw [lowS_eq_bmod_lowU, ← h.lowU_eq], h.2.2⟩

end

section
variable {c : Ctx} {rt base : Reg} {hi lo : BitVec 16} {s : State} (hr : rt ≠ 0)
include hr

/-- At an aligned address LWL alone loads the word: it keeps no byte. -/
theorem word_of_aligned_lwl (hea : s.ea c base hi = s.ea c base lo + 3) (halign : s.ea c base lo % 4 = 0)
    (hhi : AlignedInside s (s.ea c base hi) 4) :
    Completes (exec (.lwl c rt base hi) s)
      (LoadsValue c rt 4 (s.ea c base lo) (wrap32 (leBytes s.arena (s.ea c base lo) 4)) s) := by
  obtain ⟨t, ht, ⟨hframe, hbytes, hupper⟩, hext⟩ := completes_lwl hr hhi
  refine ⟨t, ht, LoadsWhole.word ⟨hframe, fun k hk => ?_, hupper⟩ hext⟩
  have haddr : s.ea c base lo + 3 + k - (4 - 1) = s.ea c base lo + k := by omega
  rw [hbytes k hk, hea, leftByte, if_neg (by omega), haddr]

/-- At an aligned address LWR alone loads the word: it keeps no byte and extends. -/
theorem word_of_aligned_lwr (halign : s.ea c base lo % 4 = 0) (hlo : AlignedInside s (s.ea c base lo) 4) :
    Completes (exec (.lwr c rt base lo) s)
      (LoadsValue c rt 4 (s.ea c base lo) (wrap32 (leBytes s.arena (s.ea c base lo) 4)) s) := by
  obtain ⟨t, ht, ⟨hframe, hbytes, hupper⟩, hext⟩ := completes_lwr hr hlo
  rw [if_pos halign] at hext
  refine ⟨t, ht, LoadsWhole.word ⟨hframe, fun k hk => ?_, hupper⟩ hext⟩
  rw [hbytes k hk, rightByte, if_pos (by omega)]

variable (hbase : base ≠ rt)
include hbase

/-- Where LWR does not extend, it keeps the extension LWL made and the byte that holds the sign. -/
theorem word_of_lwl_lwr (hea : s.ea c base hi = s.ea c base lo + 3) (hlo : AlignedInside s (s.ea c base lo) 4)
    (hhi : AlignedInside s (s.ea c base hi) 4) :
    Completes (exec (.lwl c rt base hi) s) fun t => Completes (exec (.lwr c rt base lo) t)
      (LoadsValue c rt 4 (s.ea c base lo) (wrap32 (leBytes s.arena (s.ea c base lo) 4)) s) := by
  obtain ⟨t, ht, hleft, hext⟩ := completes_lwl hr hhi
  obtain ⟨u, hu, hright, hext'⟩ := completes_lwr hr ((alignedInside_of_frame hleft.1 hbase).2 hlo)
  rw [ea_of_frame hleft.1 hbase] at hright hext'
  rw [hea] at hleft
  refine ⟨t, ht, u, hu, (LoadsWhole.of_left_right (.inl rfl) hleft hright).word ?_⟩
  split at hext'
  · exact hext'
  · refine lowS_64_eq_lowS_32_of_kept hext hext' ?_
    rw [hright.2.1 3 (by decide), rightByte, if_neg (by omega)]

theorem word_of_lwr_lwl (hea : s.ea c base hi = s.ea c base lo + 3) (hlo : AlignedInside s (s.ea c base lo) 4)
    (hhi : AlignedInside s (s.ea c base hi) 4) :
    Completes (exec (.lwr c rt base lo) s) fun t => Completes (exec (.lwl c rt base hi) t)
      (LoadsValue c rt 4 (s.ea c base lo) (wrap32 (leBytes s.arena (s.ea c base lo) 4)) s) := by
  obtain ⟨t, ht, hright, -⟩ := completes_lwr hr hlo
  obtain ⟨u, hu, hleft, hext⟩ := completes_lwl hr ((alignedInside_of_frame hright.1 hbase).2 hhi)
  rw [ea_of_frame hright.1 hbase, hea] at hleft
  exact ⟨t, ht, u, hu, (LoadsWhole.of_right_left (.inl rfl) hright hleft).word hext⟩

theorem dword_of_ldl_ldr (hea : s.ea c base hi = s.ea c base lo + 7) (hlo : AlignedInside s (s.ea c base lo) 8)
    (hhi : AlignedInside s (s.ea c base hi) 8) :
    Completes (exec (.ldl c rt base hi) s) fun t => Completes (exec (.ldr c rt base lo) t)
      (LoadsValue c rt 8 (s.ea c base lo) (Int.bmod (leBytes s.arena (s.ea c base lo) 8) (2 ^ 64)) s) := by
  obtain ⟨t, ht, hleft⟩ := completes_ldl hr hhi
  obtain ⟨u, hu, hright⟩ := completes_ldr hr ((alignedInside_of_frame hleft.1 hbase).2 hlo)
  rw [ea_of_frame hleft.1 hbase] at hright
  rw [hea] at hleft
  exact ⟨t, ht, u, hu, (LoadsWhole.of_left_right (.inr rfl) hleft hright).dword⟩

theorem dword_of_ldr_ldl (hea : s.ea c base hi = s.ea c base lo + 7) (hlo : AlignedInside s (s.ea c base lo) 8)
    (hhi : AlignedInside s (s.ea c base hi) 8) :
    Completes (exec (.ldr c rt base lo) s) fun t => Completes (exec (.ldl c rt base hi) t)
      (LoadsValue c rt 8 (s.ea c base lo) (Int.bmod (leBytes s.arena (s.ea c base lo) 8) (2 ^ 64)) s) := by
  obtain ⟨t, ht, hright⟩ := completes_ldr hr hlo
  obtain ⟨u, hu, hleft⟩ := completes_ldl hr ((alignedInside_of_frame hright.1 hbase).2 hhi)
  rw [ea_of_frame hright.1 hbase, hea] at hleft
  exact ⟨t, ht, u, hu, (LoadsWhole.of_right_left (.inr rfl) hright hleft).dword⟩

end

/-! Pairs that leave the arena. -/

/-- The unaligned loads and the bytes of their aligned access (42_scalar_mem.md R200). -/
def unalignedLoads (c : Ctx) (rt base : Reg) (off : BitVec 16) : List (Instr × Nat) :=
  [(.lwl c rt base off, 4), (.lwr c rt base off, 4), (.ldl c rt base off, 8), (.ldr c rt base off, 8)]

section
variable {c : Ctx} {rt base : Reg} {off off' : BitVec 16} {s : State} {i j : Instr} {n : Nat}
  (hi : (i, n) ∈ unalignedLoads c rt base off)
include hi

theorem halts_of_outside (hout : ¬ AlignedInside s (s.ea c base off) n) :
    Completes (exec i s) fun t => t.halted = true := by
  have hfatal := (outOfArenaIsFatal c rt base off s i n).2 hi (Nat.lt_of_not_le hout)
  exact hfatal.imp fun t ⟨_, hstatus, _⟩ => by simp [State.halted, hstatus]

theorem frame_of_inside (hr : rt ≠ 0) (hin : AlignedInside s (s.ea c base off) n) :
    Completes (exec i s) (Frame {.x c rt} s) := by
  simp only [unalignedLoads, List.mem_cons, List.not_mem_nil, or_false, Prod.mk.injEq] at hi
  rcases hi with ⟨rfl, rfl⟩ | ⟨rfl, rfl⟩ | ⟨rfl, rfl⟩ | ⟨rfl, rfl⟩
  · exact (completes_lwl hr hin).imp fun _ ⟨hload, _⟩ => hload.1
  · exact (completes_lwr hr hin).imp fun _ ⟨hload, _⟩ => hload.1
  · exact (completes_ldl hr hin).imp fun _ hload => hload.1
  · exact (completes_ldr hr hin).imp fun _ hload => hload.1

/-- The first load is fatal, or it completes and leaves the second the access that is. -/
theorem pair_fatal (hr : rt ≠ 0) (hbase : base ≠ rt) (hj : (j, n) ∈ unalignedLoads c rt base off')
    (hout : ¬ (AlignedInside s (s.ea c base off) n ∧ AlignedInside s (s.ea c base off') n)) :
    Completes (exec i s) fun t => t.halted = true ∨ Completes (exec j t) fun u => u.halted = true := by
  by_cases hin : AlignedInside s (s.ea c base off) n
  · refine (frame_of_inside hi hr hin).imp fun t hframe => .inr (halts_of_outside hj fun hin' => hout ⟨hin, ?_⟩)
    exact (alignedInside_of_frame hframe hbase).1 hin'
  · exact (halts_of_outside hi hin).imp fun _ => .inl

end

/-- Settles O37: the second load of a pair finds the arena and the effective address as they were, so each byte comes
from one of the two, and each access is inside the arena or fatal on its own. -/
theorem unalignedComposition : Obligations.UnalignedComposition := by
  intro c rt base hi lo s hr hbase _
  refine ⟨fun hea => ?_, fun hea => ?_⟩ <;> rw [← hea]
  · refine ⟨fun ⟨hlo, hhi⟩ => ⟨word_of_lwl_lwr hr hbase hea hlo hhi, word_of_lwr_lwl hr hbase hea hlo hhi,
      fun halign => ⟨word_of_aligned_lwl hr hea halign hhi, word_of_aligned_lwr hr halign hlo⟩⟩, fun hout => ?_⟩
    have hlwl : (Instr.lwl c rt base hi, 4) ∈ unalignedLoads c rt base hi := .head _
    have hlwr : (Instr.lwr c rt base lo, 4) ∈ unalignedLoads c rt base lo := .tail _ (.head _)
    exact ⟨pair_fatal hlwl hr hbase hlwr (hout ∘ And.symm), pair_fatal hlwr hr hbase hlwl hout⟩
  · refine ⟨fun ⟨hlo, hhi⟩ => ⟨dword_of_ldl_ldr hr hbase hea hlo hhi, dword_of_ldr_ldl hr hbase hea hlo hhi⟩,
      fun hout => ?_⟩
    have hldl : (Instr.ldl c rt base hi, 8) ∈ unalignedLoads c rt base hi := .tail _ (.tail _ (.head _))
    have hldr : (Instr.ldr c rt base lo, 8) ∈ unalignedLoads c rt base lo := .tail _ (.tail _ (.tail _ (.head _)))
    exact ⟨pair_fatal hldl hr hbase hldr (hout ∘ And.symm), pair_fatal hldr hr hbase hldl hout⟩

end Sys2Proof.Machine
end

section
/-! PROOFS. Multiply, divide and the pair: what a write of the pair's low halves and of all its lanes leaves in each
register, against the integers of the rules (43_scalar_muldiv.md). -/

namespace Sys2Proof.Machine

/-! The two writes of the pair, register by register. -/

section
variable (s : State) (c : Ctx) (rd : Reg)

@[simp] theorem State.lo_setPairD (lo hi : Dword) : (s.setPairD c lo hi).lo c = setD0 (s.lo c) lo := by
  rw [State.setPairD, State.lo_setHi, State.lo_setLo, if_pos rfl]
@[simp] theorem State.hi_setPairD (lo hi : Dword) : (s.setPairD c lo hi).hi c = setD0 (s.hi c) hi := by
  rw [State.setPairD, State.hi_setHi, if_pos rfl]
@[simp] theorem State.x_setPairD (lo hi : Dword) (r : Reg) : (s.setPairD c lo hi).x c r = s.x c r := by
  rw [State.setPairD, State.x_setHi, State.x_setLo]

@[simp] theorem State.lo_setPairLanes (lo hi : Nat → Word) :
    (s.setPairLanes c rd lo hi).lo c = ofLanes 32 lo 4 := by
  rw [State.setPairLanes, State.lo_setX, State.lo_setHi, State.lo_setLo, if_pos rfl]
@[simp] theorem State.hi_setPairLanes (lo hi : Nat → Word) :
    (s.setPairLanes c rd lo hi).hi c = ofLanes 32 hi 4 := by
  rw [State.setPairLanes, State.hi_setX, State.hi_setHi, if_pos rfl]
theorem State.x_setPairLanes {rd : Reg} (h : rd ≠ 0) (lo hi : Nat → Word) :
    (s.setPairLanes c rd lo hi).x c rd = ofLanes 32 (fun i => if i % 2 = 0 then lo i else hi (i - 1)) 4 := by
  rw [State.setPairLanes, State.x_setX, if_pos ⟨rfl, rfl, h⟩]

end

/-! Scalar commands: the pair's low halves. -/

/-- `.d[0] <- v` for the bits of an integer `v` (10_state.md R25). -/
theorem setD0_toNat_of_ofInt (old : Quad) {d : Dword} {v : Int} (h : BitVec.ofInt 64 v = d) :
    (setD0 old d).toNat = putD0 old v := by
  rw [setD0_toNat, ← h, BitVec.toNat_ofInt, putD0]; norm_num

section
variable {s : State} {c : Ctx}

theorem completes_setPairD {dlo dhi : Dword} {lo hi : Int} (hlo : BitVec.ofInt 64 lo = dlo)
    (hhi : BitVec.ofInt 64 hi = dhi) : Completes (.next (s.setPairD c dlo dhi)) (fun t => Frame {.lo c, .hi c} s t ∧
      (t.lo c).toNat = putD0 (s.lo c) lo ∧ (t.hi c).toNat = putD0 (s.hi c) hi) := by
  refine ⟨_, rfl, frame_setPairD .., ?_, ?_⟩
  · rw [State.lo_setPairD, setD0_toNat_of_ofInt _ hlo]
  · rw [State.hi_setPairD, setD0_toNat_of_ofInt _ hhi]

/-- The pair, and the low half to a destination as well. -/
theorem completes_setPairD_setXD {rd : Reg} {dlo dhi : Dword} {lo hi : Int} (hlo : BitVec.ofInt 64 lo = dlo)
    (hhi : BitVec.ofInt 64 hi = dhi) : Completes (.next ((s.setPairD c dlo dhi).setXD c rd dlo)) (fun t =>
      Frame {.lo c, .hi c, .x c rd} s t ∧ (t.lo c).toNat = putD0 (s.lo c) lo ∧ (t.hi c).toNat = putD0 (s.hi c) hi ∧
      (t.x c rd).toNat = if rd = 0 then 0 else putD0 (s.x c rd) lo) := by
  obtain ⟨_, ⟨⟩, hframe, hlo', hhi'⟩ := completes_setPairD (s := s) (c := c) hlo hhi
  obtain ⟨_, ⟨⟩, hframe', hx⟩ := completes_setXD (s := s.setPairD c dlo dhi) (c := c) (r := rd) hlo
  refine ⟨_, rfl, (hframe.mono ?_).trans (hframe'.mono ?_), ?_, ?_, ?_⟩
  · simp [Set.insert_subset_iff]
  · simp
  · rwa [State.lo_setXD]
  · rwa [State.hi_setXD]
  · rwa [State.x_setPairD] at hx

end

/-- A 32-bit result, sign-extended into the doubleword (43_scalar_muldiv.md R240). -/
theorem ofInt_wrap32 {v : Int} {w : Word} (h : BitVec.ofInt 32 v = w) : BitVec.ofInt 64 (wrap32 v) = sext64 w := by
  rw [← sext64_ofInt, h]

/-! The words of a product's 64-bit pattern (43_scalar_muldiv.md R241, R242). -/

theorem ofInt_eq_lowWord (p : Int) : BitVec.ofInt 32 p = (BitVec.ofInt 64 p).extractLsb' 0 32 := by
  apply BitVec.eq_of_toNat_eq
  rw [BitVec.extractLsb'_toNat, BitVec.toNat_ofInt, BitVec.toNat_ofInt, Nat.shiftRight_zero]
  omega

theorem ofInt_div_eq_highWord (p : Int) : BitVec.ofInt 32 (p / 2 ^ 32) = (BitVec.ofInt 64 p).extractLsb' 32 32 := by
  apply BitVec.eq_of_toNat_eq
  rw [BitVec.extractLsb'_toNat, BitVec.toNat_ofInt, BitVec.toNat_ofInt, Nat.shiftRight_eq_div_pow]
  omega

/-- Settles O39: the two words of the product's 64-bit pattern are those of the integer and of its quotient by 2^32. -/
theorem multiplies : Obligations.Multiplies := by
  intro c rd rs rt s
  have hlow (p : Int) := ofInt_wrap32 (ofInt_eq_lowWord p)
  have hhigh (p : Int) := ofInt_wrap32 (ofInt_div_eq_highWord p)
  simp only [lowS_32_x, lowU_32_x, ← Nat.cast_mul]
  exact ⟨completes_setPairD_setXD (hlow _) (hhigh _), completes_setPairD_setXD (hlow _) (hhigh _)⟩

/-! The two answers of a divide (43_scalar_muldiv.md R243, R244). -/

section
variable {s : State} {c : Ctx} {rs rt : Reg}

theorem exec_div_of_not_fits (h : s.xw c rt = 0 ∨ ((s.xw c rs).toInt = -(2 ^ 31) ∧ (s.xw c rt).toInt = -1)) :
    exec (.div c rs rt) s = .next (s.setPairD c (Config.idiv0 true (s.xw c rs) (s.xw c rt)).1
      (Config.idiv0 true (s.xw c rs) (s.xw c rt)).2) := if_pos h

theorem exec_div_of_fits (h : ¬(s.xw c rt = 0 ∨ ((s.xw c rs).toInt = -(2 ^ 31) ∧ (s.xw c rt).toInt = -1))) :
    exec (.div c rs rt) s = .next (s.setPairD c (BitVec.ofInt 64 ((s.xw c rs).toInt.tdiv (s.xw c rt).toInt))
      (BitVec.ofInt 64 ((s.xw c rs).toInt.tmod (s.xw c rt).toInt))) := if_neg h

theorem exec_divu_of_zero (h : s.xw c rt = 0) :
    exec (.divu c rs rt) s = .next (s.setPairD c (Config.idiv0 false (s.xw c rs) (s.xw c rt)).1
      (Config.idiv0 false (s.xw c rs) (s.xw c rt)).2) := if_pos h

theorem exec_divu_of_ne_zero (h : s.xw c rt ≠ 0) :
    exec (.divu c rs rt) s = .next (s.setPairD c (sext64 (s.xw c rs / s.xw c rt)) (sext64 (s.xw c rs % s.xw c rt))) :=
  if_neg h

end

/-- Settles O40: the model's test for `IDIV0` is the negation of the rule's, and its remainder is what the truncated
quotient leaves of the dividend. -/
theorem divides : Obligations.Divides := by
  intro c rs rt s
  have hint : (s.xw c rt).toInt = 0 ↔ s.xw c rt = 0 := BitVec.toInt_inj (y := 0)
  have hnat : (s.xw c rt).toNat = 0 ↔ s.xw c rt = 0 := BitVec.toNat_inj (y := 0)
  simp only [lowS_32_x, lowU_32_x, ne_eq, hint, hnat, ← not_or]
  constructor
  · by_cases h : s.xw c rt = 0 ∨ ((s.xw c rs).toInt = -(2 ^ 31) ∧ (s.xw c rt).toInt = -1)
    · rw [exec_div_of_not_fits h, if_neg (not_not.mpr h)]
      exact completes_setPairD (ofInt_toNat _) (ofInt_toNat _)
    · rw [exec_div_of_fits h, if_pos h]
      refine completes_setPairD rfl ?_
      rw [Int.tmod_def, Int.mul_comm]
  · by_cases h : s.xw c rt = 0
    · rw [exec_divu_of_zero h, if_neg (not_not.mpr h)]
      exact completes_setPairD (ofInt_toNat _) (ofInt_toNat _)
    · rw [exec_divu_of_ne_zero h, if_pos h, ← BitVec.toNat_udiv, ← BitVec.toNat_umod]
      exact completes_setPairD (ofInt_wrap32 (ofInt_toNat _)) (ofInt_wrap32 (ofInt_toNat _))

/-- Settles O41: each move is one write of one register. -/
theorem pairMoves : Obligations.PairMoves := by
  intro c r s
  have hd (v : Quad) : (d0 v).toNat = lowU 64 v := d0_toNat v
  have hset (old : Quad) : (setD0 old (s.xd c r)).toNat = putD0 old (lowU 64 (s.x c r)) :=
    setD0_toNat_of_ofInt old (by rw [lowU_64_x, ofInt_toNat])
  refine ⟨completes_setXD_toNat (hd _), completes_setXD_toNat (hd _), ⟨_, rfl, frame_setHi .., ?_⟩,
    ⟨_, rfl, frame_setLo .., ?_⟩, ⟨_, rfl, writesX_setX ..⟩, ⟨_, rfl, writesX_setX ..⟩,
    ⟨_, rfl, frame_setHi .., ?_⟩, ⟨_, rfl, frame_setLo .., ?_⟩⟩
  · rw [State.hi_setHi, if_pos rfl, hset]
  · rw [State.lo_setLo, if_pos rfl, hset]
  · rw [State.hi_setHi, if_pos rfl]
  · rw [State.lo_setLo, if_pos rfl]

/-! Packed commands: every lane of the pair. -/

/-- A lane read as a signed integer, in the model's bits. -/
theorem laneS_eq_lane (w : Nat) (v : Quad) (i : Nat) : laneS w v i = (lane w v i).toInt := by
  rw [BitVec.toInt_eq_toNat_bmod, lane_toNat, laneS, Nat.mul_comm i w, Int.natCast_mod, Int.emod_bmod]

/-- A lane of a value built from the bits of integers. -/
theorem laneU_ofLanes_ofInt (g : Nat → Word) {i : Nat} {v : Int} (hi : i < 4) (h : BitVec.ofInt 32 v = g i) :
    (laneU 32 (ofLanes 32 g 4) i : Int) = v % 2 ^ 32 := by
  rw [laneU_eq_lane, lane_ofLanes (by decide) g (by decide) hi, ← h, BitVec.toNat_ofInt]
  omega

theorem completes_setPairLanes {s : State} {c : Ctx} {rd : Reg} {glo ghi : Nat → Word} {lo hi : Nat → Int}
    (hlo : ∀ i, i < 4 → BitVec.ofInt 32 (lo i) = glo i) (hhi : ∀ i, i < 4 → BitVec.ofInt 32 (hi i) = ghi i) :
    Completes (.next (s.setPairLanes c rd glo ghi)) (fun t => Frame {.lo c, .hi c, .x c rd} s t ∧
      (∀ i, i < 4 → (laneU 32 (t.lo c) i : Int) = lo i % 2 ^ 32) ∧
      (∀ i, i < 4 → (laneU 32 (t.hi c) i : Int) = hi i % 2 ^ 32) ∧
      (rd = 0 → t.x c rd = 0) ∧
      (rd ≠ 0 → (laneU 32 (t.x c rd) 0 : Int) = lo 0 % 2 ^ 32 ∧ (laneU 32 (t.x c rd) 1 : Int) = hi 0 % 2 ^ 32 ∧
        (laneU 32 (t.x c rd) 2 : Int) = lo 2 % 2 ^ 32 ∧ (laneU 32 (t.x c rd) 3 : Int) = hi 2 % 2 ^ 32)) := by
  refine ⟨_, rfl, frame_setPairLanes .., fun i hi => ?_, fun i hi => ?_, fun hrd => ?_, fun hrd => ?_⟩
  · rw [State.lo_setPairLanes]; exact laneU_ofLanes_ofInt _ hi (hlo i hi)
  · rw [State.hi_setPairLanes]; exact laneU_ofLanes_ofInt _ hi (hhi i hi)
  · rw [hrd, State.x_zero]
  · rw [State.x_setPairLanes _ _ hrd]
    exact ⟨laneU_ofLanes_ofInt _ (by decide) (hlo 0 (by decide)), laneU_ofLanes_ofInt _ (by decide) (hhi 0 (by decide)),
      laneU_ofLanes_ofInt _ (by decide) (hlo 2 (by decide)), laneU_ofLanes_ofInt _ (by decide) (hhi 2 (by decide))⟩

/-- Settles O42: a product's word is the pattern of the integers' product, and the model adds patterns modulo 2^32. -/
theorem packedMultiplies : Obligations.PackedMultiplies := by
  intro c rd rs rt s
  have hloIndex : ∀ i, i < 4 → [0, 1, 4, 5].getD i 0 = loProduct i := by decide
  have hhiIndex : ∀ i, i < 4 → [2, 3, 6, 7].getD i 0 = hiProduct i := by decide
  have hproduct (j : Nat) : BitVec.ofInt 32 (laneS 16 (s.x c rs) j * laneS 16 (s.x c rt) j) =
      halfProduct (s.x c rs) (s.x c rt) j := by rw [laneS_eq_lane, laneS_eq_lane, halfProduct]
  have hsum (v : Quad) (i j : Nat) :
      BitVec.ofInt 32 (laneU 32 v i + laneS 16 (s.x c rs) j * laneS 16 (s.x c rt) j) =
        lane 32 v i + halfProduct (s.x c rs) (s.x c rt) j := by
    rw [BitVec.ofInt_add, hproduct, laneU_eq_lane, ofInt_toNat]
  refine ⟨completes_setPairLanes (fun i hi => ?_) (fun i hi => ?_),
    completes_setPairLanes (fun i hi => ?_) (fun i hi => ?_)⟩
  · rw [hloIndex i hi, hproduct]
  · rw [hhiIndex i hi, hproduct]
  · rw [hloIndex i hi, hsum]
  · rw [hhiIndex i hi, hsum]

end Sys2Proof.Machine
end

section
/-! PROOFS. Vector arithmetic and the accumulator chain: a masked write against the lanes the rules name, the model's drawn
NaN patterns being quiet, and what a chain's later commands still read (44_vu_arith.md). -/

namespace Sys2Proof.Machine

/-! Lane results: the pattern a NaN takes is drawn, and always quiet (00_scope.md R14). -/

/-- The nine fixed bits below the sign are the exponent's and the quiet bit. -/
theorem isQuietNaN_quietNaN (d : Quad) : IsQuietNaN (quietNaN d) := by
  have hpayload := (d.extractLsb' 0 22).isLt
  have hfixed : (0x1FF#9).toNat = 0x1FF := rfl
  rw [IsQuietNaN, quietNaN, BitVec.toNat_append, ← Nat.shiftLeft_add_eq_or_of_lt hpayload, BitVec.toNat_append,
    ← Nat.shiftLeft_add_eq_or_of_lt (0x1FF#9).isLt, Nat.shiftLeft_eq, Nat.shiftLeft_eq, hfixed]
  omega

section
variable (s : State) (k j : Nat) (acc a b : Word)

theorem addLane_nan : AddLane a b (f32add (s.nan k) a b) := ⟨_, isQuietNaN_quietNaN _, rfl⟩
theorem subLane_nan : SubLane a b (f32sub (s.nan k) a b) := ⟨_, isQuietNaN_quietNaN _, rfl⟩
theorem mulLane_nan : MulLane a b (f32mul (s.nan k) a b) := ⟨_, isQuietNaN_quietNaN _, rfl⟩
theorem mulAddLane_nan : MulAddLane acc a b (f32add (s.nan k) acc (f32mul (s.nan j) a b)) :=
  ⟨_, mulLane_nan .., addLane_nan ..⟩
theorem mulSubLane_nan : MulSubLane acc a b (f32sub (s.nan k) acc (f32mul (s.nan j) a b)) :=
  ⟨_, mulLane_nan .., subLane_nan ..⟩

end

/-! Masked writes (44_vu_arith.md R270). -/

theorem selected_or_kept (selected : Bool) {p : Word → Prop} {new old : Word} (h : p new) :
    if selected = true then p (if selected = true then new else old)
    else (if selected = true then new else old) = old := by
  cases selected with
  | false => rfl
  | true => exact h

section
variable {s : State} {c : Ctx} {fd : Reg} {dest : Mask} {rel : Nat → Word → Prop} {g : Nat → Word}

theorem completes_maskVf (h : ∀ i, rel i (g i)) : Completes (.next (s.maskVf c fd dest g)) (MaskedVf c fd dest rel s) := by
  refine ⟨_, rfl, frame_maskVf .., fun i hi => ?_⟩
  rw [lane_maskVf _ _ _ _ _ hi]
  exact selected_or_kept _ (h i)

theorem completes_maskAcc (h : ∀ i, rel i (g i)) : Completes (.next (s.maskAcc c dest g)) (MaskedAcc c dest rel s) := by
  refine ⟨_, rfl, frame_maskAcc .., fun i hi => ?_⟩
  rw [lane_maskAcc _ _ _ _ hi]
  exact selected_or_kept _ (h i)

end

/-- Settles O43: each command is one masked write, each lane one application of a float primitive. -/
theorem laneArithmetic : Obligations.LaneArithmetic := by
  intro c fd fs ft dest bc s
  refine ⟨completes_maskVf ?vadd, completes_maskVf ?vaddBc, completes_maskVf ?vsub, completes_maskVf ?vsubBc,
    completes_maskVf ?vmul, completes_maskVf ?vmulBc, completes_maskVf ?vaddq, completes_maskVf ?vsubq,
    completes_maskVf ?vmulq, completes_maskVf ?vaddi, completes_maskVf ?vsubi, completes_maskVf ?vmuli⟩
  case vadd | vaddBc | vaddq | vaddi => exact fun _ => addLane_nan ..
  case vsub | vsubBc | vsubq | vsubi => exact fun _ => subLane_nan ..
  case vmul | vmulBc | vmulq | vmuli => exact fun _ => mulLane_nan ..

/-- Settles O44: each command is one masked write of `ACC`, the continuing ones from the product rounded first. -/
theorem accumulatorWrites : Obligations.AccumulatorWrites := by
  intro c fs ft dest bc s
  refine ⟨completes_maskAcc ?vmula, completes_maskAcc ?vmulaBc, completes_maskAcc ?vmadda, completes_maskAcc ?vmaddaBc,
    completes_maskAcc ?vmsuba, completes_maskAcc ?vmsubaBc⟩
  case vmula | vmulaBc => exact fun _ => mulLane_nan ..
  case vmadda | vmaddaBc => exact fun _ => mulAddLane_nan ..
  case vmsuba | vmsubaBc => exact fun _ => mulSubLane_nan ..

/-- Settles O45: each command is one masked write of a vector register, its lanes from `ACC` and the product
rounded first; the write's frame keeps `ACC`. -/
theorem chainEnds : Obligations.ChainEnds := by
  intro c fd fs ft dest bc s
  refine ⟨completes_maskVf ?vmadd, completes_maskVf ?vmaddBc, completes_maskVf ?vmsub, completes_maskVf ?vmsubBc⟩
  case vmadd | vmaddBc => exact fun _ => mulAddLane_nan ..
  case vmsub | vmsubBc => exact fun _ => mulSubLane_nan ..

/-! A chain: what a later command reads of what an earlier one left alone. -/

section
variable {w : Set Loc} {s t : State} {c : Ctx} {r : Reg}

theorem Frame.vfStored_eq (h : Frame w s t) (hw : .vf c r ∉ w) : t.vfStored c r = s.vfStored c r := h.1 _ hw

theorem Frame.vf_eq (h : Frame w s t) (hw : .vf c r ∉ w) : t.vf c r = s.vf c r := by
  rw [State.vf, State.vf, h.vfStored_eq hw]

theorem Frame.acc_eq (h : Frame w s t) (hw : .acc c ∉ w) : t.acc c = s.acc c := h.1 _ hw

end

/-- Settles O46: the first two commands leave the vector registers and the last one `ACC`, so each command's roundings
stand in the final state as the rule orders them. -/
theorem chainEquivalence : Obligations.ChainEquivalence := by
  intro c fd s0 s1 s0b s1b s0c s1c bc0 bc1 dest s
  obtain ⟨-, ⟨t, ht, hframeT, hlaneT⟩, -⟩ := accumulatorWrites c s0 s1 dest bc0 s
  obtain ⟨-, -, -, ⟨u, hu, hframeU, hlaneU⟩, -⟩ := accumulatorWrites c s0b s1b dest bc1 t
  obtain ⟨⟨v, hv, hframeV, hlaneV⟩, -⟩ := chainEnds c fd s0c s1c dest bc0 u
  have hframe : Frame {.acc c} s u := hframeT.trans hframeU
  have hvfT (r : Reg) : t.vf c r = s.vf c r := hframeT.vf_eq (by simp)
  have hvfU (r : Reg) : u.vf c r = s.vf c r := hframe.vf_eq (by simp)
  have hstored : u.vfStored c fd = s.vfStored c fd := hframe.vfStored_eq (by simp)
  have hacc : v.acc c = u.acc c := hframeV.acc_eq (by simp)
  refine ⟨t, ht, u, hu, v, hv, (hframe.mono (by simp)).trans (hframeV.mono (by simp)), fun i hi => ?_⟩
  have hT := hlaneT i hi
  have hU := hlaneU i hi
  have hV := hlaneV i hi
  by_cases hd : dest.getLsbD i = true
  · rw [if_pos hd] at hT hU hV ⊢
    obtain ⟨q, hq, hpq⟩ := hU
    obtain ⟨r, hr, haccr⟩ := hV
    rw [hvfT, hvfT] at hq
    rw [hvfU, hvfU] at hr
    rw [hacc]
    exact ⟨_, q, r, hT, hq, hpq, hr, haccr⟩
  · rw [if_neg hd] at hT hU hV ⊢
    exact ⟨by rw [hacc, hU, hT], by rw [hV, hstored]⟩

end Sys2Proof.Machine
end

section
/-! PROOFS. Where the float primitives lose nothing: a pattern is its value and its sign, and a number that fits the
significand comes out of the rounding as it went in (00_scope.md R14). -/

namespace Sys2Proof.Machine

/-! A finite pattern is its value and its sign. -/

/-- The next magnitude bits stand for one more unit of the last place. -/
theorem floatMag_lt_succ (bits : Nat) : floatMag bits < floatMag (bits + 1) := by
  obtain ⟨d, m, hbits, hm, hd⟩ : ∃ d m, bits = d * 2 ^ 23 + m ∧ m < 2 ^ 24 ∧ (d = 0 ∨ 2 ^ 23 ≤ m) :=
    ⟨bits / 2 ^ 23 - 1, bits - (bits / 2 ^ 23 - 1) * 2 ^ 23, by omega, by omega, by omega⟩
  rw [hbits, add_assoc, floatMag_places hm.le hd, floatMag_places hm (by omega)]
  exact Nat.mul_lt_mul_of_pos_right m.lt_succ_self (by positivity)

theorem floatMag_injective : Function.Injective floatMag := (strictMono_nat_of_lt_succ floatMag_lt_succ).injective

/-- Only the two zeros stand for one value. -/
theorem FloatValue.eq_of_msb_eq {a b : Word} {v : Int} (ha : FloatValue a v) (hb : FloatValue b v) (hmsb : a.msb = b.msb) :
    a = b := by
  obtain ⟨-, hva⟩ := (floatValue_iff a v).1 ha
  obtain ⟨-, hvb⟩ := (floatValue_iff b v).1 hb
  have hmag := congrArg Int.natAbs (hva.symm.trans hvb)
  rw [natAbs_signedMag, natAbs_signedMag] at hmag
  rw [← floatPattern_self a, ← floatPattern_self b, hmsb, floatMag_injective hmag]

theorem FloatValue.msb_eq {a : Word} {v : Int} (h : FloatValue a v) (hv : v ≠ 0) : a.msb = decide (v < 0) := by
  have hsign := h.eq_signedMag
  rw [signedMag] at hsign
  split at hsign
  · next hneg => rw [hneg, eq_comm, decide_eq_true_iff]; omega
  · next hpos => rw [Bool.eq_false_of_not_eq_true hpos, eq_comm, decide_eq_false_iff_not]; omega

theorem floatValue_zero : FloatValue 0 0 := ⟨false, 0, by decide, by decide⟩

/-! Roundings that lose nothing. -/

theorem signedMag_mul (neg : Bool) (m p : Nat) : signedMag neg (m * p) = signedMag neg m * p := by
  cases neg <;> simp [signedMag]

theorem signedMag_div (neg : Bool) (m p : Nat) : signedMag neg (m / p) = (signedMag neg m).tdiv p := by
  cases neg <;> simp [signedMag, Int.neg_tdiv]

theorem roundNearestEven_mul {q den : Nat} (hden : 0 < den) : roundNearestEven (q * den) den = q := by
  simp [roundNearestEven, Nat.mul_div_cancel _ hden, hden.ne]

/-- At most as many places are dropped as the number has zeros below its significand, so the rounding is exact. -/
theorem roundMag_of_fits {k j den : Nat} (hden : 0 < den) (hk : k < 2 ^ 24) : roundMag (k * 2 ^ j * den) den = k * 2 ^ j := by
  have hplaces : roundPlaces (k * 2 ^ j * den) den ≤ j := by
    rw [roundPlaces, Nat.mul_div_cancel _ hden]
    rcases Nat.eq_zero_or_pos k with rfl | hpos
    · simp
    · have hlt : (k * 2 ^ j).log2 < 24 + j := (Nat.log2_lt (by positivity)).2 <| by
        rw [pow_add]
        exact Nat.mul_lt_mul_of_pos_right hk (by positivity)
      omega
  obtain ⟨e, he⟩ := Nat.exists_eq_add_of_le hplaces
  rw [roundMag, roundSignificand]
  generalize roundPlaces (k * 2 ^ j * den) den = d at he ⊢
  have hnum : k * 2 ^ j * den = k * 2 ^ e * (den * 2 ^ d) := by rw [he]; ring
  rw [hnum, roundNearestEven_mul (by positivity), he]
  ring

/-- Below the overflow the rounding answers a finite pattern. -/
theorem floatValue_roundFloat (neg : Bool) {num den : Nat} (hden : 0 < den) (h : num < (2 ^ 25 - 1) * 2 ^ 252 * den) :
    FloatValue (roundFloat neg num den) (signedMag neg (roundMag num den)) := by
  have hbits := lt_floatInfBits_of_no_overflow hden h
  have hmag : floatMag (roundBits num den) = roundMag num den :=
    floatMag_places (roundSignificand_le hden) ((Nat.eq_zero_or_pos _).imp_right (le_roundSignificand hden))
  rw [roundFloat_eq, min_eq_right hbits.le]
  exact ⟨neg, _, by rw [floatView_floatPattern neg hbits.le, if_pos hbits, hmag], rfl⟩

/-- A number whose significand fits 24 bits, its exponent within the range, is rounded to itself. -/
theorem floatValue_roundFloat_of_fits (neg : Bool) {k j den : Nat} (hden : 0 < den) (hk : k < 2 ^ 24) (hj : j ≤ 253) :
    FloatValue (roundFloat neg (k * 2 ^ j * den) den) (signedMag neg k * 2 ^ j) := by
  have hmax : k * 2 ^ j ≤ (2 ^ 24 - 1) * 2 ^ 253 :=
    Nat.mul_le_mul (by omega) (Nat.pow_le_pow_right (by decide) hj)
  have hexact := floatValue_roundFloat neg (num := k * 2 ^ j * den) hden (Nat.mul_lt_mul_of_pos_right (by omega) hden)
  rwa [roundMag_of_fits hden hk, signedMag_mul, Nat.cast_pow, Nat.cast_ofNat] at hexact

/-- The product by a power of two of a number whose significand fits is exact; a zero keeps the sign of the product. -/
theorem f32mul_two_pow (n : Word) {a p : Word} {k : Int} {i j l : Nat} (ha : FloatValue a (k * 2 ^ i))
    (hp : FloatValue p (2 ^ j)) (hexp : i + j = l + 149) (hk : k.natAbs < 2 ^ 24) (hl : l ≤ 253) :
    (f32mul n a p).msb = a.msb ∧ FloatValue (f32mul n a p) (k * 2 ^ l) := by
  have hpos : p.msb = false := by
    rw [hp.msb_eq (by positivity), decide_eq_false_iff_not, not_lt]
    positivity
  have htwo (e : Nat) : ((2 : Int) ^ e).natAbs = 2 ^ e := Int.natAbs_pow 2 e
  have hsigned : signedMag a.msb k.natAbs = k := by
    have hsign := ha.eq_signedMag
    rw [Int.natAbs_mul, htwo, signedMag_mul, Nat.cast_pow, Nat.cast_ofNat] at hsign
    exact (mul_right_cancel₀ (by positivity) hsign).symm
  have hnum : (k * 2 ^ i).natAbs * ((2 : Int) ^ j).natAbs = k.natAbs * 2 ^ l * 2 ^ 149 := by
    rw [Int.natAbs_mul, htwo, htwo, mul_assoc, mul_assoc, ← pow_add, ← pow_add, hexp]
  rw [f32mul_fin n ha hp, hnum, hpos, Bool.xor_false]
  have hval := floatValue_roundFloat_of_fits a.msb (den := 2 ^ 149) (by positivity) hk hl
  rw [hsigned] at hval
  exact ⟨(roundFloat_nearestEven _ _ (by positivity)).1, hval⟩

/-! Between words and floats. -/

/-- A signed word below 2^24 in magnitude is a float. -/
theorem i32tof32_of_toInt {x : Word} {k : Int} (hx : x.toInt = k) (hk : k.natAbs < 2 ^ 24) :
    (i32tof32 x).msb = decide (k < 0) ∧ FloatValue (i32tof32 x) (k * 2 ^ 149) := by
  have hsigned : signedMag (decide (k < 0)) k.natAbs = k := by
    simp only [signedMag, decide_eq_true_eq]
    split <;> omega
  have hval := floatValue_roundFloat_of_fits (decide (k < 0)) (j := 149) Nat.one_pos hk (by decide)
  rw [mul_one, hsigned] at hval
  exact ⟨by rw [(i32tof32_nearestEven x).1, BitVec.msb_eq_toInt, hx], by rwa [i32tof32, hx]⟩

/-- `r` is the float `f` truncated toward zero, where a signed word holds that (45_vu_special.md R321 to R323). -/
def Truncates (f r : Word) : Prop :=
  ∀ v, FloatValue f v → -(2 ^ 31) ≤ v.tdiv (2 ^ 149) → v.tdiv (2 ^ 149) < 2 ^ 31 → r.toInt = v.tdiv (2 ^ 149)

theorem f32toi32_truncates (any a : Word) : Truncates a (f32toi32 any a) := by
  intro v ha hlow hhigh
  have htrunc : signedMag a.msb (v.natAbs / 2 ^ 149) = v.tdiv (2 ^ 149) := by
    rw [signedMag_div, ← ha.eq_signedMag, Nat.cast_pow, Nat.cast_ofNat]
  unfold f32toi32
  rw [ha.view_eq]
  dsimp only
  rw [htrunc, if_pos ⟨hlow, by omega⟩, BitVec.toInt_ofInt]
  exact Int.bmod_eq_of_le (by omega) (by omega)

/-- A whole number of 24 bits is its own truncation. -/
theorem Truncates.toInt_eq {f r : Word} {k : Int} (h : Truncates f r) (hf : FloatValue f (k * 2 ^ 149))
    (hk : k.natAbs < 2 ^ 24) : r.toInt = k := by
  have hdiv : Int.tdiv (k * 2 ^ 149) (2 ^ 149) = k := Int.mul_tdiv_cancel _ (by positivity)
  have hr := h _ hf
  rw [hdiv] at hr
  exact hr (by omega) (by omega)

end Sys2Proof.Machine
end

section
/-! PROOFS. Vector divide, roots, random stream and conversions (45_vu_special.md). -/

namespace Sys2Proof.Machine

/-- Clearing the sign bit leaves the magnitude bits. -/
theorem f32abs_eq (a : Word) : f32abs a = BitVec.ofNat 32 (a.toNat % 2 ^ 31) := by
  apply BitVec.eq_of_toNat_eq
  have hand : a.toNat &&& (0x7FFFFFFF#32).toNat = a.toNat % 2 ^ 31 := Nat.and_two_pow_sub_one_eq_mod a.toNat 31
  rw [f32abs, BitVec.toNat_and, hand, BitVec.toNat_ofNat]
  omega

theorem completes_setQ {s : State} {c : Ctx} {p : Word → Prop} {w : Word} (h : p w) :
    Completes (.next (s.setQ c w)) (fun t => Frame {.q c} s t ∧ p (t.q c)) :=
  ⟨_, rfl, frame_setQ .., by rwa [State.q_setQ, if_pos rfl]⟩

section
variable (s : State) (k : Nat) (a b : Word)

theorem divLane_nan : DivLane a b (f32div (s.nan k) a b) := ⟨_, isQuietNaN_quietNaN _, rfl⟩

theorem sqrtLane_nan : SqrtLane (BitVec.ofNat 32 (a.toNat % 2 ^ 31)) (f32sqrt (s.nan k) (f32abs a)) := by
  rw [f32abs_eq]
  exact ⟨_, isQuietNaN_quietNaN _, rfl⟩

end

/-- The quotient of VRSQRT by its rounded root (45_vu_special.md R314). -/
def RsqrtLane (a b q : Word) : Prop := ∃ r, SqrtLane (BitVec.ofNat 32 (b.toNat % 2 ^ 31)) r ∧ DivLane a r q

/-- Settles O49: each command is one write of `Q`, VRSQRT's a quotient by the rounded root. -/
theorem quotientAndRoots : Obligations.QuotientAndRoots := by
  intro c fs ft fsf ftf s
  exact ⟨completes_setQ (divLane_nan ..), completes_setQ (sqrtLane_nan ..),
    completes_setQ (p := RsqrtLane _ _) ⟨_, sqrtLane_nan .., divLane_nan ..⟩⟩

/-- Settles O50: one masked write, one write of `RNG`, or the write of `RNG` and then the masked write of its new value. -/
theorem randomStream : Obligations.RandomStream := by
  intro c fd dest fsf s
  refine ⟨completes_maskVf fun _ => rfl, ⟨_, rfl, ?frame, ?rng, fun i hi => ?lane⟩, ⟨_, rfl, frame_setRng .., rfl⟩⟩
  case frame => exact ((frame_setRng ..).mono (by simp)).trans ((frame_maskVf ..).mono (by simp))
  case rng => rw [State.rng_maskVf, State.rng_setRng]
  case lane => rw [lane_maskVf _ _ _ _ _ hi, State.vfStored_setRng]

/-- Settles O51: each command is one masked write of its lanes' conversions. -/
theorem conversions : Obligations.Conversions := by
  intro c fd fs dest s
  refine ⟨completes_maskVf fun _ => rfl, completes_maskVf fun _ => mulLane_nan .., completes_maskVf fun _ => mulLane_nan ..,
    completes_maskVf ?vftoi0, completes_maskVf ?vftoi4, completes_maskVf ?vftoi12⟩
  case vftoi0 => exact fun _ => f32toi32_truncates _ _
  case vftoi4 | vftoi12 => exact fun _ => ⟨_, mulLane_nan .., f32toi32_truncates _ _⟩

/-! The round trips (45_vu_special.md R324). -/

theorem floatValue_4096 : FloatValue 0x45800000#32 (2 ^ 161) := ⟨false, 2 ^ 161, by decide, by decide⟩

theorem floatValue_inv_4096 : FloatValue 0x39800000#32 (2 ^ 137) := ⟨false, 2 ^ 137, by decide, by decide⟩

/-- A pattern of the value that left, with the sign of a zero dropped, is what left but for a negative zero. -/
theorem eq_of_returned {r w : Word} {k unit : Int} (hunit : 0 < unit) (hmsb : r.msb = decide (k < 0))
    (hr : FloatValue r (k * unit)) (hw : FloatValue w (k * unit)) : r = if k = 0 then 0 else w := by
  split
  · next hzero =>
    subst hzero
    rw [zero_mul] at hr
    exact hr.eq_of_msb_eq floatValue_zero hmsb
  · next hne =>
    refine hr.eq_of_msb_eq hw ?_
    rw [hr.msb_eq (mul_ne_zero hne hunit.ne'), hw.msb_eq (mul_ne_zero hne hunit.ne')]

/-- Settles O52: both scalings and both conversions are exact on these numbers, so the value returns, and with it the
pattern. -/
theorem conversionRoundTrip : Obligations.ConversionRoundTrip := by
  intro c a b d s hb
  have hall : ∀ i, i < 4 → (15 : Mask).getLsbD i = true := by decide
  constructor
  · obtain ⟨-, -, -, -, -, t, ht, -, hto⟩ := conversions c b a 15 s
    obtain ⟨-, ⟨u, hu, -, hfrom⟩, -⟩ := conversions c d b 15 t
    refine ⟨t, ht, u, hu, fun i k hi hk hval => ?_⟩
    have hto := hto i hi
    have hfrom := hfrom i hi
    rw [if_pos (hall i hi)] at hto hfrom
    obtain ⟨f, ⟨n, -, rfl⟩, htrunc⟩ := hto
    obtain ⟨m, -, hback⟩ := hfrom
    obtain ⟨-, hscaled⟩ := f32mul_two_pow n (l := 149) hval floatValue_4096 (by decide) hk (by decide)
    obtain ⟨hsign, hword⟩ := i32tof32_of_toInt (Truncates.toInt_eq htrunc hscaled hk) hk
    obtain ⟨hmsb, hunscaled⟩ := f32mul_two_pow m (l := 137) hword floatValue_inv_4096 (by decide) hk (by decide)
    rw [hback, State.vf_pos _ _ hb]
    exact eq_of_returned (by positivity) (hmsb.trans hsign) hunscaled hval
  · obtain ⟨-, -, -, ⟨t, ht, -, hto⟩, -⟩ := conversions c b a 15 s
    obtain ⟨⟨u, hu, -, hfrom⟩, -⟩ := conversions c d b 15 t
    refine ⟨t, ht, u, hu, fun i k hi hk hval => ?_⟩
    have hto := hto i hi
    have hfrom := hfrom i hi
    rw [if_pos (hall i hi)] at hto hfrom
    obtain ⟨hsign, hword⟩ := i32tof32_of_toInt (Truncates.toInt_eq hto hval hk) hk
    rw [hfrom, State.vf_pos _ _ hb]
    exact eq_of_returned (by positivity) hsign hword hval

end Sys2Proof.Machine
end

section
/-! PROOFS. Packed-integer commands: each writes a whole register, lane by lane (46_packed_int.md R340). -/

namespace Sys2Proof.Machine

section
variable {s : State} {c : Ctx} {rd : Reg} {w n : Nat}

/-- A write of a register other than 0 reads back; register 0 discards it and reads 0 (10_state.md R23). -/
theorem completes_setX_reads {v : Quad} {p : Quad → Prop} (h : p v) :
    Completes (.next (s.setX c rd v))
      (fun t => Frame {.x c rd} s t ∧ (rd = 0 → t.x c rd = 0) ∧ (rd ≠ 0 → p (t.x c rd))) := by
  obtain ⟨hframe, hx⟩ := writesX_setX s c rd v
  exact ⟨_, rfl, hframe, fun hrd => by rw [hx, if_pos hrd], fun hrd => by rwa [hx, if_neg hrd]⟩

/-- The lanes of `v` in pairs: `n` of each source from lane `from_` on, `b`'s in the lower place (46_packed_int.md
R341). -/
def PairsLanes (w n from_ : Nat) (a b v : Quad) : Prop := ∀ i, i < n →
  laneU w v (2 * i) = laneU w b (from_ + i) ∧ laneU w v (2 * i + 1) = laneU w a (from_ + i)

theorem pairsLanes_interleave (hw : 0 < w) (n : Nat) (hn : 2 * n * w ≤ 128) (from_ : Nat) (a b : Quad) :
    PairsLanes w n from_ a b (interleave w (2 * n) from_ a b) := by
  intro i hi
  have heven : 2 * i % 2 = 0 ∧ 2 * i / 2 = i := by omega
  have hodd : (2 * i + 1) % 2 ≠ 0 ∧ (2 * i + 1) / 2 = i := by omega
  simp only [laneU_eq_lane]
  rw [lane_interleave hw hn _ _ _ (by omega), lane_interleave hw hn _ _ _ (by omega), if_pos heven.1, if_neg hodd.1,
    heven.2, hodd.2]
  exact ⟨rfl, rfl⟩

/-- The even lanes of both sources, `n` of each, `b`'s in the low half of `v` (46_packed_int.md R349 to R351). -/
def GathersEvenLanes (w n : Nat) (a b v : Quad) : Prop := ∀ i, i < n →
  laneU w v i = laneU w b (2 * i) ∧ laneU w v (n + i) = laneU w a (2 * i)

theorem gathersEvenLanes_packEven (hw : 0 < w) (n : Nat) (hn : 2 * n * w ≤ 128) (a b : Quad) :
    GathersEvenLanes w n a b (packEven w (2 * n) a b) := by
  intro i hi
  have hhalf : 2 * n / 2 = n := by omega
  simp only [laneU_eq_lane]
  rw [lane_packEven hw hn _ _ (by omega), lane_packEven hw hn _ _ (by omega), hhalf, if_pos hi, if_neg (by omega),
    Nat.add_sub_cancel_left]
  exact ⟨rfl, rfl⟩

/-- A whole register written: each lane, against the number the rule gives it. -/
theorem completes_setX_lanes {v : Quad} {g : Nat → Nat} (h : ∀ i, i < n → (lane w v i).toNat = g i) :
    Completes (.next (s.setX c rd v)) (WritesLanes c rd w n g s) := by
  obtain ⟨hframe, hx⟩ := writesX_setX s c rd v
  refine ⟨_, rfl, hframe, fun i hi => ?_⟩
  by_cases hrd : rd = 0
  · rw [hx, if_pos hrd, if_pos hrd, laneU, BitVec.ofNat_eq_ofNat, BitVec.toNat_zero, Nat.zero_div, Nat.zero_mod]
  · rw [hx, if_neg hrd, if_neg hrd, laneU_eq_lane, h i hi]

theorem completes_zipLanes {op : BitVec w → BitVec w → BitVec w} {a b : Quad} {g : Nat → Nat}
    (h : ∀ i, (op (lane w a i) (lane w b i)).toNat = g i) (hw : 0 < w) (hn : n * w ≤ 128) :
    Completes (.next (s.setX c rd (zipLanes w n op a b))) (WritesLanes c rd w n g s) :=
  completes_setX_lanes fun i hi => by rw [lane_zipLanes hw hn _ _ _ hi, h]

theorem completes_mapLanes {op : BitVec w → BitVec w} {a : Quad} {g : Nat → Nat}
    (h : ∀ i, (op (lane w a i)).toNat = g i) (hw : 0 < w) (hn : n * w ≤ 128) :
    Completes (.next (s.setX c rd (mapLanes w n op a))) (WritesLanes c rd w n g s) :=
  completes_setX_lanes fun i hi => by rw [lane_mapLanes hw hn _ _ hi, h]

end

/-- Settles O53: each command is one write of an interleave or of a pack. -/
theorem packedPermutations : Obligations.PackedPermutations := by
  intro c rd rs rt s
  have pairs {w : Nat} (n from_ : Nat) (hw : 0 < w := by decide) (hn : 2 * n * w ≤ 128 := by decide) :=
    completes_setX_reads (s := s) (c := c) (rd := rd) (pairsLanes_interleave hw n hn from_ (s.x c rs) (s.x c rt))
  have evens {w : Nat} (n : Nat) (hw : 0 < w := by decide) (hn : 2 * n * w ≤ 128 := by decide) :=
    completes_setX_reads (s := s) (c := c) (rd := rd) (gathersEvenLanes_packEven hw n hn (s.x c rs) (s.x c rt))
  exact ⟨pairs 8 0, pairs 4 0, pairs 2 0, pairs 8 8, pairs 4 4, pairs 2 2, evens 8, evens 4, evens 2⟩

/-! What an operation on bits is of the numbers the lanes stand for, at any width. -/

/-- A mask of the lane's width: all ones or 0 (46_packed_int.md R358 to R363). -/
theorem toNat_flagLane {w : Nat} {b : Bool} {p : Prop} [Decidable p] (h : b = true ↔ p) :
    (flagLane w b).toNat = if p then 2 ^ w - 1 else 0 := by
  by_cases hp : p
  · rw [if_pos hp, h.mpr hp, flagLane, if_pos rfl, BitVec.toNat_allOnes]
  · rw [if_neg hp, Bool.eq_false_iff.mpr (mt h.mp hp)]; rfl

/-- The choice between two lanes, in numbers: maximum and minimum make it (46_packed_int.md R364 to R367). -/
theorem toNat_ite {w : Nat} {b : Bool} {p : Prop} [Decidable p] (h : b = true ↔ p) (u v : BitVec w) :
    (if b = true then u else v).toNat = if p then u.toNat else v.toNat := by
  rw [apply_ite BitVec.toNat]
  exact if_congr h rfl rfl

/-- The zeros above a word's highest one are those its size leaves (46_packed_int.md R374). -/
theorem leadingZeros_eq (u : Word) : leadingZeros u = 32 - Nat.size u.toNat := by
  unfold leadingZeros
  split
  · next h => subst h; rfl
  · next h =>
    have hne : u.toNat ≠ 0 := mt (BitVec.toNat_inj (y := 0)).mp h
    have hsize : Nat.size u.toNat = u.toNat.log2 + 1 :=
      le_antisymm (Nat.size_le.mpr Nat.lt_log2_self) (Nat.lt_size.mpr (Nat.log2_self_le hne))
    omega

/-- `lzc` of R374: the bits below the sign bit that equal it are zeros of the word or of its complement. -/
theorem toNat_leadingSignBits (v : Word) :
    (leadingSignBits v).toNat = 31 - Nat.size (if v.toInt < 0 then 2 ^ 32 - 1 - v.toNat else v.toNat) := by
  have hcomplement : (if v.msb then ~~~v else v).toNat = if v.toInt < 0 then 2 ^ 32 - 1 - v.toNat else v.toNat := by
    rw [BitVec.msb_eq_toInt, toNat_ite decide_eq_true_iff, BitVec.toNat_not]
  rw [leadingSignBits, leadingZeros_eq, hcomplement, BitVec.toNat_ofNat]
  omega

/-! The commands at every width. -/

section
variable {s : State} {c : Ctx} {rd : Reg} {w n : Nat} {a b : Quad}

theorem completes_paddLanes (hw : 0 < w := by decide) (hn : n * w ≤ 128 := by decide) :
    Completes (.next (s.setX c rd (zipLanes w n (fun u v => u + v) a b)))
      (WritesLanes c rd w n (fun i => (laneU w a i + laneU w b i) % 2 ^ w) s) :=
  completes_zipLanes (fun i => by rw [BitVec.toNat_add, laneU_eq_lane, laneU_eq_lane]) hw hn

theorem completes_psubLanes (hw : 0 < w := by decide) (hn : n * w ≤ 128 := by decide) :
    Completes (.next (s.setX c rd (zipLanes w n (fun u v => u - v) a b)))
      (WritesLanes c rd w n (fun i => (laneU w a i + (2 ^ w - laneU w b i)) % 2 ^ w) s) :=
  completes_zipLanes (fun i => by rw [BitVec.toNat_sub, Nat.add_comm, laneU_eq_lane, laneU_eq_lane]) hw hn

theorem completes_pceqLanes (hw : 0 < w := by decide) (hn : n * w ≤ 128 := by decide) :
    Completes (.next (s.setX c rd (zipLanes w n (fun u v => flagLane w (u == v)) a b)))
      (WritesLanes c rd w n (fun i => if laneU w a i = laneU w b i then 2 ^ w - 1 else 0) s) := by
  refine completes_zipLanes (fun i => toNat_flagLane ?_) hw hn
  rw [beq_iff_eq, laneU_eq_lane, laneU_eq_lane, BitVec.toNat_inj]

/-- The signed order of two lanes, as the model and as the rules read it. -/
theorem slt_lane_iff (i : Nat) : (lane w a i).slt (lane w b i) = true ↔ laneS w a i < laneS w b i := by
  rw [laneS_eq_lane, laneS_eq_lane, BitVec.slt_iff_toInt_lt]

theorem completes_pcgtLanes (hw : 0 < w := by decide) (hn : n * w ≤ 128 := by decide) :
    Completes (.next (s.setX c rd (zipLanes w n (fun u v => flagLane w (v.slt u)) a b)))
      (WritesLanes c rd w n (fun i => if laneS w a i > laneS w b i then 2 ^ w - 1 else 0) s) :=
  completes_zipLanes (fun i => toNat_flagLane (slt_lane_iff i)) hw hn

theorem completes_pmaxLanes (hw : 0 < w := by decide) (hn : n * w ≤ 128 := by decide) :
    Completes (.next (s.setX c rd (zipLanes w n (fun u v => if v.slt u then u else v) a b)))
      (WritesLanes c rd w n (fun i => if laneS w a i > laneS w b i then laneU w a i else laneU w b i) s) :=
  completes_zipLanes (fun i => by rw [laneU_eq_lane, laneU_eq_lane]; exact toNat_ite (slt_lane_iff i) ..) hw hn

theorem completes_pminLanes (hw : 0 < w := by decide) (hn : n * w ≤ 128 := by decide) :
    Completes (.next (s.setX c rd (zipLanes w n (fun u v => if u.slt v then u else v) a b)))
      (WritesLanes c rd w n (fun i => if laneS w a i < laneS w b i then laneU w a i else laneU w b i) s) :=
  completes_zipLanes (fun i => by rw [laneU_eq_lane, laneU_eq_lane]; exact toNat_ite (slt_lane_iff i) ..) hw hn

theorem completes_psllLanes (k : Nat) (hw : 0 < w := by decide) (hn : n * w ≤ 128 := by decide) :
    Completes (.next (s.setX c rd (mapLanes w n (fun u => u <<< k) a)))
      (WritesLanes c rd w n (fun i => laneU w a i * 2 ^ k % 2 ^ w) s) :=
  completes_mapLanes (fun i => by rw [BitVec.toNat_shiftLeft, Nat.shiftLeft_eq, laneU_eq_lane]) hw hn

theorem completes_psrlLanes (k : Nat) (hw : 0 < w := by decide) (hn : n * w ≤ 128 := by decide) :
    Completes (.next (s.setX c rd (mapLanes w n (fun u => u >>> k) a)))
      (WritesLanes c rd w n (fun i => laneU w a i / 2 ^ k) s) :=
  completes_mapLanes (fun i => by rw [BitVec.toNat_ushiftRight, Nat.shiftRight_eq_div_pow, laneU_eq_lane]) hw hn

theorem completes_psraLanes (k : Nat) (hw : 0 < w := by decide) (hn : n * w ≤ 128 := by decide) :
    Completes (.next (s.setX c rd (mapLanes w n (fun u => u.sshiftRight k) a)))
      (WritesLanes c rd w n (fun i => (laneS w a i / 2 ^ k % 2 ^ w).toNat) s) := by
  refine completes_mapLanes (fun i => ?_) hw hn
  rw [← toNat_of_toInt, toInt_sshiftRight_eq_div, laneS_eq_lane, Int.natCast_pow, Int.cast_ofNat_Int]

end

/-- Settles O54: one law for the sums and one for the differences, at the three widths. -/
theorem packedAdds : Obligations.PackedAdds := fun _ _ _ _ _ =>
  ⟨completes_paddLanes, completes_paddLanes, completes_paddLanes, completes_psubLanes, completes_psubLanes,
    completes_psubLanes⟩

/-- Settles O55: equal bits are equal numbers, and the model's signed order of bits is the order of the integers. -/
theorem packedCompares : Obligations.PackedCompares := fun _ _ _ _ _ =>
  ⟨completes_pceqLanes, completes_pceqLanes, completes_pceqLanes, completes_pcgtLanes, completes_pcgtLanes,
    completes_pcgtLanes, completes_pmaxLanes, completes_pmaxLanes, completes_pminLanes, completes_pminLanes⟩

/-- Settles O56: a shift by k multiplies or divides each lane by 2^k; the count is that of the zeros above the highest
one of the word, or of its complement where it is negative. -/
theorem packedShiftsAndCount : Obligations.PackedShiftsAndCount := by
  intro c rd rs rt h w s
  refine ⟨completes_psllLanes h.val, completes_psrlLanes h.val, completes_psraLanes h.val, completes_psllLanes w.val,
    completes_psrlLanes w.val, completes_psraLanes w.val, completes_setX_lanes fun i hi => ?_⟩
  rw [lane_ofLanes (by decide) _ (by decide) (by omega), if_pos hi, toNat_leadingSignBits, laneS_eq_lane, laneU_eq_lane]

end Sys2Proof.Machine
end

section
/-! PROOFS. DMA commands: the six tests in their order, and what a copy that passes them moves and leaves alone
(47_dma.md). -/

namespace Sys2Proof.Machine

/-- The operands are the low words of the three registers (R390). -/
theorem dmaOperands_eq (s : State) (c : Ctx) (rq rm rsp : Reg) :
    s.dmaOperands c rq rm rsp = ⟨lowU 32 (s.x c rq), lowU 32 (s.x c rm), lowU 32 (s.x c rsp)⟩ := by
  rw [State.dmaOperands, lowU_32_x, lowU_32_x, lowU_32_x]

/-- A command's body runs under the six tests of R392 on the operands and the spans. -/
def TestsCopy (i : Instr) (il : Bool) (o : DmaOperands) (sspan mspan : Nat) (s : State) : Prop :=
  sspan ≤ 80 * o.qwc ∧ mspan ≤ 80 * o.qwc ∧
    ∃ body, exec i s = guarded i (dmaFault il o sspan mspan s.cfg.arenaSize) body s

/-- The four commands with their spans (R391). -/
theorem testsCopy_of_mem (c : Ctx) (rq rm rsp : Reg) (s : State) {i : Instr} {il : Bool} {sspan mspan q m a : Nat}
    (hops : s.dmaOperands c rq rm rsp = ⟨q, m, a⟩)
    (h : (i, il, sspan, mspan) ∈ [(.dmaTospr c rq rm rsp, false, 16 * q, 16 * q),
        (.dmaFromspr c rq rm rsp, false, 16 * q, 16 * q), (.dmaTosprIl c rq rm rsp, true, 64 * (q / 4), ilSourceSpan q),
        (.dmaFromsprIl c rq rm rsp, true, ilSourceSpan q, 64 * (q / 4))]) :
    TestsCopy i il ⟨q, m, a⟩ sspan mspan s := by
  have hil : ilSourceSpan q ≤ 80 * q := by rw [ilSourceSpan]; split <;> omega
  simp only [List.mem_cons, List.not_mem_nil, or_false, Prod.mk.injEq] at h
  rcases h with ⟨rfl, rfl, rfl, rfl⟩ | ⟨rfl, rfl, rfl, rfl⟩ | ⟨rfl, rfl, rfl, rfl⟩ | ⟨rfl, rfl, rfl, rfl⟩
  all_goals
    simp only [TestsCopy, exec, execDmaTospr, execDmaFromspr, execDmaTosprIl, execDmaFromsprIl, dmaToSpad, dmaFromSpad,
      hops]
    exact ⟨by omega, by omega, _, rfl⟩

/-- The operands and the spans fit the 64-bit registers that report them. -/
theorem info_lt_of_dmaFault {il : Bool} {o : DmaOperands} {sspan mspan size : Nat} {e : Cause}
    (h : dmaFault il o sspan mspan size = some e) (hq : o.qwc < 2 ^ 64) (hm : o.madr < 2 ^ 64) (ha : o.sadr < 2 ^ 64)
    (hs : sspan < 2 ^ 64) (hspan : mspan < 2 ^ 64) : e.info0 < 2 ^ 64 ∧ e.info1 < 2 ^ 64 ∧ e.info2 < 2 ^ 64 := by
  unfold dmaFault at h
  split_ifs at h <;> cases h <;> exact ⟨by assumption, by dsimp only; omega, by dsimp only; omega⟩

/-- The first of the tests that fails is the fatal raised. -/
theorem TestsCopy.raises {i : Instr} {il : Bool} {o : DmaOperands} {sspan mspan : Nat} {s : State} {e : Cause}
    (h : TestsCopy i il o sspan mspan s) (hq : o.qwc < 2 ^ 32) (hm : o.madr < 2 ^ 32) (ha : o.sadr < 2 ^ 32)
    (he : dmaFault il o sspan mspan s.cfg.arenaSize = some e) : Raises i e.code.number e.info0 e.info1 e.info2 s := by
  obtain ⟨hs, hspan, body, hexec⟩ := h
  obtain ⟨h0, h1, h2⟩ := info_lt_of_dmaFault he (by omega) (by omega) (by omega) (by omega) (by omega)
  exact raises_of_guarded hexec he h0 h1 h2

/-- The first test of R392 that fails, with its report. -/
theorem dmaFault_first (il : Bool) (o : DmaOperands) (sspan mspan size : Nat) :
    let t4 := il = true ∧ o.qwc % 4 ≠ 0
    let t5 := o.sadr ≥ 16384 ∨ o.sadr + sspan > 16384
    let fault := dmaFault il o sspan mspan size
    (o.madr % 16 ≠ 0 → fault = some ⟨.align, o.madr, 16, 0⟩) ∧
    (o.madr % 16 = 0 → o.sadr % 16 ≠ 0 → fault = some ⟨.align, o.sadr, 16, 1⟩) ∧
    (o.madr % 16 = 0 → o.sadr % 16 = 0 → o.qwc > 1024 → fault = some ⟨.count, o.qwc, 1024, 0⟩) ∧
    (o.madr % 16 = 0 → o.sadr % 16 = 0 → ¬o.qwc > 1024 → t4 → fault = some ⟨.operand, o.qwc, 4, 0⟩) ∧
    (o.madr % 16 = 0 → o.sadr % 16 = 0 → ¬o.qwc > 1024 → ¬t4 → t5 → fault = some ⟨.window, o.sadr, sspan, 0⟩) ∧
    (o.madr % 16 = 0 → o.sadr % 16 = 0 → ¬o.qwc > 1024 → ¬t4 → ¬t5 → o.madr + mspan > size →
      fault = some ⟨.arena, o.madr, mspan, 0⟩) := by
  dsimp only
  unfold dmaFault
  refine ⟨fun h1 => ?_, fun h1 h2 => ?_, fun h1 h2 h3 => ?_, fun h1 h2 h3 h4 => ?_, fun h1 h2 h3 h4 h5 => ?_,
    fun h1 h2 h3 h4 h5 h6 => ?_⟩
  · rw [if_pos h1]
  all_goals rw [if_neg (not_not.mpr h1)]
  · rw [if_pos h2]
  all_goals rw [if_neg (not_not.mpr h2)]
  · rw [if_pos h3]
  all_goals rw [if_neg h3]
  · rw [if_pos h4]
  all_goals rw [if_neg h4]
  · exact if_pos h5
  · exact (if_neg h5).trans (if_pos h6)

/-- Settles O57: each command's body runs under the six tests, so the first that fails is the fatal it raises. -/
theorem dmaPreconditions : Obligations.DmaPreconditions := by
  intro c rq rm rsp s q m a i il sspan mspan hmem
  have hlow (v : Quad) : lowU 32 v < 2 ^ 32 := Nat.mod_lt _ (by decide)
  have hraises {e : Cause} := (testsCopy_of_mem c rq rm rsp s (dmaOperands_eq s c rq rm rsp) hmem).raises (e := e)
    (hlow _) (hlow _) (hlow _)
  obtain ⟨first1, first2, first3, first4, first5, first6⟩ := dmaFault_first il ⟨q, m, a⟩ sspan mspan s.cfg.arenaSize
  exact ⟨fun h1 => hraises (first1 h1), fun h1 h2 => hraises (first2 h1 h2), fun h1 h2 h3 => hraises (first3 h1 h2 h3),
    fun h1 h2 h3 h4 => hraises (first4 h1 h2 h3 h4), fun h1 h2 h3 h4 h5 => hraises (first5 h1 h2 h3 h4 h5),
    fun h1 h2 h3 h4 h5 h6 => hraises (first6 h1 h2 h3 h4 h5 h6)⟩

/-! A copy whose tests pass (R393 to R396). -/

theorem frame_spadBytes {s : State} {m : Memory} {a n : Nat}
    (h : ∀ b, ¬(a ≤ b ∧ b < a + n) → m.byteAt b = s.spad.byteAt b) :
    Frame (spadLocs a n) s { s with spad := m } := by
  refine ⟨fun l hl => ?_, rfl, rfl, rfl⟩
  cases l with
  | spad b =>
    have hb : ¬(a ≤ b ∧ b < a + n) := fun hb => hl ⟨b - a, by omega, by congr 1; omega⟩
    simp only [State.peek, h b hb]
  | _ => rfl

theorem frame_arenaBytes {s : State} {m : Memory} {a n : Nat}
    (h : ∀ b, ¬(a ≤ b ∧ b < a + n) → m.byteAt b = s.arena.byteAt b) :
    Frame (arenaLocs a n) s { s with arena := m } := by
  refine ⟨fun l hl => ?_, rfl, rfl, rfl⟩
  cases l with
  | arena b =>
    have hb : ¬(a ≤ b ∧ b < a + n) := fun hb => hl ⟨b - a, by omega, by congr 1; omega⟩
    simp only [State.peek, h b hb]
  | _ => rfl

/-- The `n` quadwords from `dstBase` on in `dst` are those of `src`, dense or four of every five from `srcBase` on. -/
def Copied (il : Bool) (src : Memory) (srcBase : Nat) (dst : Memory) (dstBase n : Nat) : Prop :=
  ∀ j, j < 16 * n → dst.byteAt (dstBase + j) = src.byteAt (srcBase + quadOffset il (j / 16) + j % 16)

theorem copied_copyQuads {dst : Memory} (h : dst.wf = true) {il : Bool} {src : Memory} {srcBase dstBase n : Nat} :
    Copied il src srcBase (Memory.copyQuads src (sourceAt il srcBase) (destAt dstBase) dst n) dstBase n := by
  intro j hj
  rw [Memory.byteAt_copyQuads h, if_pos (by omega), Nat.add_sub_cancel_left, sourceAt_eq]

/-- A dense copy, byte by byte. -/
theorem Copied.dense {src dst : Memory} {m a n : Nat} (h : Copied false src m dst a n) (k : Nat) (hk : k < 16 * n) :
    dst.byteAt (a + k) = src.byteAt (m + k) := by
  rw [h k hk, quadOffset, if_neg Bool.false_ne_true, Nat.add_assoc, Nat.div_add_mod]

/-- An interleaved copy: 64 bytes of every 80 of the source. -/
theorem Copied.strided {src dst : Memory} {m a n : Nat} (h : Copied true src m dst a n) (j k : Nat) (hj : j < n / 4)
    (hk : k < 64) : dst.byteAt (a + 64 * j + k) = src.byteAt (m + 80 * j + k) := by
  rw [Nat.add_assoc, h (64 * j + k) (by omega), quadOffset, if_pos rfl]
  congr 1
  omega

theorem byteAt_copyQuads_out {dst : Memory} (h : dst.wf = true) (src : Memory) (f : Nat → Nat) {base n b : Nat}
    (hb : ¬(base ≤ b ∧ b < base + 16 * n)) : (Memory.copyQuads src f (destAt base) dst n).byteAt b = dst.byteAt b := by
  rw [Memory.byteAt_copyQuads h, if_neg hb]

/-- A dense copy copied back to where it came from changes nothing (R397). -/
theorem copyQuads_back {mem pad : Memory} (hmem : mem.wf = true) (hpad : pad.wf = true) (m a n : Nat) :
    Memory.copyQuads (Memory.copyQuads mem (sourceAt false m) (destAt a) pad n) (sourceAt false a) (destAt m) mem n =
      mem := by
  refine Memory.eq_of_bytes (Memory.wf_copyQuads hmem ..) hmem fun b => ?_
  by_cases hb : m ≤ b ∧ b < m + 16 * n
  · obtain ⟨k, rfl⟩ := Nat.exists_eq_add_of_le hb.1
    have hk : k < 16 * n := by omega
    rw [(copied_copyQuads hmem).dense k hk, (copied_copyQuads hpad).dense k hk]
  · exact byteAt_copyQuads_out hmem _ _ hb

section
variable {i : Instr} {il : Bool} {q m a : Nat} {s : State}

/-- A copy to the scratchpad whose tests pass. -/
theorem completes_dmaToSpad (hwf : s.spad.wf = true)
    (hpass : dmaFault il ⟨q, m, a⟩ (denseSpan il q) (sourceSpan il q) s.cfg.arenaSize = none) :
    Completes (dmaToSpad i il ⟨q, m, a⟩ s) (fun t => Frame (spadLocs a (16 * q)) s t ∧ t.arena = s.arena ∧
      t.spad = Memory.copyQuads s.arena (sourceAt il m) (destAt a) s.spad q) := by
  have hout := frame_spadBytes fun _ => byteAt_copyQuads_out hwf s.arena (sourceAt il m) (base := a) (n := q)
  exact ⟨_, guarded_none hpass .., hout.trans ((frame_logTransfers ..).mono (by simp)), rfl, rfl⟩

/-- A copy to the arena whose tests pass. -/
theorem completes_dmaFromSpad (hwf : s.arena.wf = true)
    (hpass : dmaFault il ⟨q, m, a⟩ (sourceSpan il q) (denseSpan il q) s.cfg.arenaSize = none) :
    Completes (dmaFromSpad i il ⟨q, m, a⟩ s) (fun t => Frame (arenaLocs m (16 * q)) s t ∧ t.spad = s.spad ∧
      t.arena = Memory.copyQuads s.spad (sourceAt il a) (destAt m) s.arena q) := by
  have hout := frame_arenaBytes fun _ => byteAt_copyQuads_out hwf s.spad (sourceAt il a) (base := m) (n := q)
  exact ⟨_, guarded_none hpass .., hout.trans ((frame_logTransfers ..).mono (by simp)), rfl, rfl⟩

/-- The bytes a copy to the scratchpad moves. -/
theorem copied_dmaToSpad (hwf : s.spad.wf = true)
    (hpass : dmaFault il ⟨q, m, a⟩ (denseSpan il q) (sourceSpan il q) s.cfg.arenaSize = none) :
    Completes (dmaToSpad i il ⟨q, m, a⟩ s)
      (fun t => Frame (spadLocs a (16 * q)) s t ∧ Copied il s.arena m t.spad a q) :=
  (completes_dmaToSpad hwf hpass).imp fun _ ⟨hframe, _, h⟩ => ⟨hframe, h ▸ copied_copyQuads hwf⟩

/-- The bytes a copy to the arena moves. -/
theorem copied_dmaFromSpad (hwf : s.arena.wf = true)
    (hpass : dmaFault il ⟨q, m, a⟩ (sourceSpan il q) (denseSpan il q) s.cfg.arenaSize = none) :
    Completes (dmaFromSpad i il ⟨q, m, a⟩ s)
      (fun t => Frame (arenaLocs m (16 * q)) s t ∧ Copied il s.spad a t.arena m q) :=
  (completes_dmaFromSpad hwf hpass).imp fun _ ⟨hframe, _, h⟩ => ⟨hframe, h ▸ copied_copyQuads hwf⟩

end

/-- Settles O58: the tests pass, and each copy moves its quadwords from where R393 to R396 place them. -/
theorem dmaCopies : Obligations.DmaCopies := by
  intro c rq rm rsp s hspad harena q m a hm ha hq hwin
  have hops : s.dmaOperands c rq rm rsp = ⟨q, m, a⟩ := dmaOperands_eq s c rq rm rsp
  have hpass (il : Bool) {sspan mspan : Nat} (h4 : il = true → q % 4 = 0) (hin : a + sspan ≤ 16384)
      (hout : m + mspan ≤ s.cfg.arenaSize) : dmaFault il ⟨q, m, a⟩ sspan mspan s.cfg.arenaSize = none :=
    dmaFault_none hm ha hq h4 hwin hin hout
  simp only [exec, execDmaTospr, execDmaFromspr, execDmaTosprIl, execDmaFromsprIl, hops]
  refine ⟨fun hin hout => ⟨?tospr, ?fromspr⟩, fun hq4 hin hout => ?tosprIl, fun hq4 hin hout => ?fromsprIl⟩
  case tospr =>
    exact (copied_dmaToSpad hspad (hpass false nofun hin hout)).imp fun _ ⟨hframe, h⟩ => ⟨hframe, h.dense⟩
  case fromspr =>
    exact (copied_dmaFromSpad harena (hpass false nofun hin hout)).imp fun _ ⟨hframe, h⟩ => ⟨hframe, h.dense⟩
  all_goals rw [show 64 * (q / 4) = 16 * q by omega]
  case tosprIl =>
    exact (copied_dmaToSpad hspad (hpass true (fun _ => hq4) hin hout)).imp fun _ ⟨hframe, h⟩ => ⟨hframe, h.strided⟩
  case fromsprIl =>
    exact (copied_dmaFromSpad harena (hpass true (fun _ => hq4) hin hout)).imp fun _ ⟨hframe, h⟩ => ⟨hframe, h.strided⟩

/-- Settles O59: the first copy leaves the operands and the arena, so the copy back writes what is there already. -/
theorem dmaRoundTrip : Obligations.DmaRoundTrip := by
  intro c rq rm rsp s hspad harena q m a hm ha hq hwin hin hout
  have hpass : dmaFault false ⟨q, m, a⟩ (16 * q) (16 * q) s.cfg.arenaSize = none :=
    dmaFault_none hm ha hq nofun hwin hin hout
  simp only [exec, execDmaTospr, execDmaFromspr, dmaOperands_eq]
  refine (completes_dmaToSpad hspad hpass).imp fun t ⟨⟨hkeep, hcfg, _⟩, htarena, htspad⟩ => ?_
  have hx (r : Reg) : t.x c r = s.x c r := hkeep (.x c r) (by simp [spadLocs])
  rw [hx, hx, hx]
  refine (completes_dmaFromSpad (htarena ▸ harena) (hcfg ▸ hpass)).imp fun u ⟨_, huspad, huarena⟩ => ?_
  rw [huarena, huspad, htarena, htspad]
  exact ⟨copyQuads_back harena hspad m a q, (copied_copyQuads hspad).dense⟩

end Sys2Proof.Machine
end

section
/-! PROOFS. The native call: the values presented, the answer written and the stores taken (48_native_call.md R410,
R411). -/

namespace Sys2Proof.Machine

/-- What a call presents, as the rules read it (R410). -/
theorem nativeRequest_eq (s : State) (c : Ctx) (rs : Reg) : s.nativeRequest c rs =
    { target := BitVec.ofNat 32 (lowU 32 (s.x c rs))
      args   := s.cfg.ncallArgs.map (fun r => BitVec.ofNat 64 (lowU 64 (s.x c r)))
      zero   := 0
      ctx0   := BitVec.ofNat 64 (lowU 64 (s.x c s.cfg.ncallCtx0))
      ctx1   := BitVec.ofNat 64 (lowU 64 (s.x c s.cfg.ncallCtx1)) } := by
  simp only [State.nativeRequest, lowU_32_x, lowU_64_x, BitVec.ofNat_toNat, BitVec.setWidth_eq]

/-- A call presented and its stores taken; its answer is not written yet. -/
def State.takeStores (s : State) (q : NativeRequest) (stores : List Host.Cell) : State :=
  { s with
    arena   := Memory.storeAll s.cfg.arenaSize s.arena stores
    natives := s.natives.tail
    ports   := { s.ports with native := some q } }

/-- The state after a call is answered. -/
def State.afterNative (s : State) (c : Ctx) (q : NativeRequest) (v : Dword) (stores : List Host.Cell) : State :=
  (s.takeStores q stores).setXD c s.cfg.ncallRet v

theorem exec_ncall_of_answers {s : State} {c : Ctx} {rs : Reg} {v : Dword} {stores : List Host.Cell}
    (h : s.nativeReply (s.nativeRequest c rs) = .answers v stores) :
    exec (.ncall c rs) s = .next (s.afterNative c (s.nativeRequest c rs) v stores) := by
  simp only [exec, execNcall, h]; rfl

theorem exec_ncall_of_never {s : State} {c : Ctx} {rs : Reg} (h : s.nativeReply (s.nativeRequest c rs) = .never) :
    exec (.ncall c rs) s = .fault .nativeTargetSilent := by
  simp only [exec, execNcall, h]

/-- The first answer the environment fixed is the one given (log entry 13). -/
theorem nativeReply_of_cons {s : State} {r : NativeReply} {more : List NativeReply} (h : s.natives = r :: more)
    (q : NativeRequest) : s.nativeReply q = r := by
  rw [State.nativeReply, h]

theorem nativeReply_of_nil {s : State} (h : s.natives = []) (q : NativeRequest) :
    s.nativeReply q = .answers (Config.nativeResult s.draws q s.arena) (Config.nativeStores s.draws q s.arena) := by
  rw [State.nativeReply, h]

section
variable (s : State) (c : Ctx) (q : NativeRequest) (v : Dword) (stores : List Host.Cell)

@[simp] theorem natives_afterNative : (s.afterNative c q v stores).natives = s.natives.tail := State.natives_setXD ..
@[simp] theorem arena_afterNative :
    (s.afterNative c q v stores).arena = Memory.storeAll s.cfg.arenaSize s.arena stores := State.arena_setXD ..
@[simp] theorem native_afterNative : (s.afterNative c q v stores).ports.native = some q := by
  rw [State.afterNative, State.ports_setXD, State.takeStores]

theorem frame_takeStores : Frame {l | ∃ a, l = .arena a} s (s.takeStores q stores) := by
  refine ⟨fun l hl => ?_, rfl, rfl, rfl⟩
  cases l with
  | arena a => exact absurd ⟨a, rfl⟩ hl
  | _ => rfl

/-- A call changes the return register and the arena alone (R411). -/
theorem frame_afterNative :
    Frame ({.x c s.cfg.ncallRet} ∪ {l | ∃ a, l = .arena a}) s (s.afterNative c q v stores) :=
  ((frame_takeStores s q stores).mono Set.subset_union_right).trans ((frame_setXD _ c _ v).mono Set.subset_union_left)

theorem x_afterNative : ((s.afterNative c q v stores).x c s.cfg.ncallRet).toNat =
    if s.cfg.ncallRet = 0 then 0 else putD0 (s.x c s.cfg.ncallRet) v.toNat :=
  (writesD0_setXD _ c _ v v.toNat (by have := v.isLt; omega)).2

end

/-- Settles O60: the reply is the first of the list, or free where the list is empty; an answer writes the return
register and the arena, and silence is the fault. -/
theorem nativeCall : Obligations.NativeCall := by
  intro c rs s req ret called
  have hreq : s.nativeRequest c rs = req := nativeRequest_eq s c rs
  have hcalled (v : Dword) (stores : List Host.Cell) : called v (s.afterNative c (s.nativeRequest c rs) v stores) :=
    ⟨frame_afterNative .., x_afterNative .., by rw [native_afterNative, hreq]⟩
  refine ⟨fun v stores more h => ?_, fun h => ?_, fun more h => exec_ncall_of_never (nativeReply_of_cons h _)⟩
  · exact ⟨_, exec_ncall_of_answers (nativeReply_of_cons h _), hcalled v stores,
      by rw [natives_afterNative, h, List.tail_cons], arena_afterNative ..⟩
  · exact ⟨_, exec_ncall_of_answers (nativeReply_of_nil h _), ⟨_, hcalled _ _⟩,
      by rw [natives_afterNative, h, List.tail_nil]⟩

end Sys2Proof.Machine
end

section
/-! PROOFS. Where a step stops, what a halted block still does, and reset (60_exceptions.md R423, R424, R439;
70_reset_and_hazards.md R460, R461). -/

namespace Sys2Proof.Machine

/-- Settles O15: of the shapes of a next state, a fatal is one of units SM and DM alone. -/
theorem onlyMemoryUnitsAreFatal : Obligations.OnlyMemoryUnitsAreFatal := by
  intro i s t hsm hdm hexec
  cases exec_shape i s t hexec with
  | regs _ st _ => exact st.keeps_status
  | rng _ st => exact st.keeps_status
  | fatal e unit _ => simp [hsm, hdm] at unit
  | load a n unit _ _ _ _ _ => exact absurd unit hsm
  | store a n v unit _ _ _ _ => exact absurd unit hsm
  | toSpad f a n ts op _ _ => exact absurd (List.mem_map_of_mem (f := Prod.fst) op) (by simpa using hdm)
  | fromSpad f a n ts op _ _ => exact absurd (List.mem_map_of_mem (f := Prod.fst) op) (by simpa using hdm)
  | native q v stores _ eq => subst eq; exact forall_mem_statusLocs.2 (by simp [State.peek])

/-! Where a meaning stops (R439). -/

/-- The meaning answers a next state. -/
def Answers (r : Res) : Prop := ∃ t, r = .next t

theorem answers_guarded {i : Instr} {test : Option Cause} {body : State → Res} {s : State} (h : Answers (body s)) :
    Answers (guarded i test body s) := by
  cases test with
  | none => exact h
  | some e => exact ⟨_, rfl⟩

theorem answers_loadOp (i : Instr) (ea a n : Nat) (put : Nat → State → State) (s : State) :
    Answers (loadOp i ea a n put s) := answers_guarded ⟨_, rfl⟩

theorem answers_storeOp (i : Instr) (ea n : Nat) (v : Quad) (s : State) : Answers (storeOp i ea n v s) :=
  answers_guarded ⟨_, rfl⟩

theorem answers_dmaToSpad (i : Instr) (il : Bool) (o : DmaOperands) (s : State) : Answers (dmaToSpad i il o s) :=
  answers_guarded ⟨_, rfl⟩

theorem answers_dmaFromSpad (i : Instr) (il : Bool) (o : DmaOperands) (s : State) : Answers (dmaFromSpad i il o s) :=
  answers_guarded ⟨_, rfl⟩

theorem answers_ite {p : Prop} [Decidable p] (t u : State) : Answers (if p then .next t else .next u) :=
  ⟨_, (apply_ite Host.Outcome.next p t u).symm⟩

/-- Every command but NCALL answers a next state. -/
theorem answers_exec {i : Instr} (h : ∀ c rs, i ≠ .ncall c rs) (s : State) : Answers (exec i s) := by
  cases i with
  | ncall c rs => exact absurd rfl (h c rs)
  | div | divu => simp only [exec, execDiv, execDivu]; exact answers_ite ..
  | lb | lbu | lh | lhu | lw | ld | lq | lwl | lwr | ldl | ldr | lwc1 | lqc2 =>
    simp only [exec, execLb, execLbu, execLh, execLhu, execLw, execLd, execLq, execLwl, execLwr, execLdl, execLdr,
      execLwc1, execLqc2]
    exact answers_loadOp ..
  | sb | sh | sw | sd | sq | swc1 | sqc2 => exact answers_storeOp ..
  | dmaTospr | dmaTosprIl => exact answers_dmaToSpad ..
  | dmaFromspr | dmaFromsprIl => exact answers_dmaFromSpad ..
  | _ => exact ⟨_, rfl⟩

/-- NCALL answers a next state unless the next reply is that the target stays silent (48_native_call.md R411). -/
theorem answers_ncall {c : Ctx} {rs : Reg} {s : State} (h : ∀ more, s.natives ≠ .never :: more) :
    Answers (exec (.ncall c rs) s) := by
  cases hreply : s.nativeReply (s.nativeRequest c rs) with
  | answers v stores => exact ⟨_, exec_ncall_of_answers hreply⟩
  | never =>
    cases hnat : s.natives with
    | nil => rw [nativeReply_of_nil hnat] at hreply; cases hreply
    | cons r more =>
      rw [nativeReply_of_cons hnat] at hreply
      exact absurd (hreply ▸ hnat) (h more)

/-- The accepted word is that of a native call whose target stays silent. -/
def SilentCall (s : State) (w : Dword) : Prop :=
  ∃ c rs more, decodeWord s.cfg.nctx w = .ok (.ncall c rs) ∧ s.natives = .never :: more

theorem answers_acceptCommand {s : State} {w : Dword} (h : ¬SilentCall s w) : Answers (acceptCommand w s) := by
  cases hdec : decodeWord s.cfg.nctx w with
  | error r => exact ⟨_, acceptCommand_error hdec⟩
  | ok i =>
    have hexec : Answers (exec i (beginCommand s)) := by
      by_cases hi : ∃ c rs, i = .ncall c rs
      · obtain ⟨c, rs, rfl⟩ := hi
        exact answers_ncall fun more hnat => h ⟨c, rs, more, hdec, hnat⟩
      · exact answers_exec (fun c rs hi' => hi ⟨c, rs, hi'⟩) _
    obtain ⟨t, ht⟩ := hexec
    exact ⟨endCommand t, by rw [acceptCommand_ok hdec, ht, finish]⟩

theorem acceptCommand_of_silentCall {s : State} {w : Dword} (h : SilentCall s w) :
    acceptCommand w s = .fault .nativeTargetSilent := by
  obtain ⟨c, rs, more, hdec, hnat⟩ := h
  rw [acceptCommand_ok hdec, exec_ncall_of_never (nativeReply_of_cons (s := beginCommand s) hnat _), finish]

/-- A step runs a silent call, or it answers a next state. -/
theorem step_silentCall_or_answers (s : State) :
    (∃ w rest, s.halted = false ∧ s.inbox = .command w :: rest ∧ SilentCall s w) ∨ Answers (step s) := by
  cases hhalt : s.halted with
  | true =>
    right
    cases hfirst : firstHost s.inbox with
    | none => exact ⟨_, step_halted_none hhalt hfirst⟩
    | some p => exact ⟨_, step_halted_some hhalt hfirst⟩
  | false =>
    cases hbox : s.inbox with
    | nil => exact .inr ⟨_, step_idle hbox⟩
    | cons i rest =>
      cases i with
      | host e => exact .inr ⟨_, step_host hbox⟩
      | command w =>
        by_cases h : SilentCall s w
        · exact .inl ⟨w, rest, rfl, rfl, h⟩
        · exact .inr (step_command hhalt hbox ▸ answers_acceptCommand h)

/-- Settles O9: a step that runs no silent call answers a next state, and one that does is the fault. -/
theorem stepStopsOnlyInNativeCall : Obligations.StepStopsOnlyInNativeCall := by
  intro s
  obtain ⟨w, rest, hrun, hbox, hsilent⟩ | ⟨t, ht⟩ := step_silentCall_or_answers s
  · have hstep : step s = .fault .nativeTargetSilent :=
      (step_command hrun hbox).trans (acceptCommand_of_silentCall hsilent)
    obtain ⟨c, rs, more, hdec, hnat⟩ := hsilent
    exact ⟨fun r => by rw [hstep]; nofun, iff_of_true ⟨_, hstep⟩ ⟨w, rest, c, rs, more, hrun, hbox, hdec, hnat⟩⟩
  · refine ⟨fun r => by rw [ht]; nofun, iff_of_false (by rw [ht]; nofun) ?_⟩
    rintro ⟨w, rest, c, rs, more, hrun, hbox, hdec, hnat⟩
    rw [step_command hrun hbox, acceptCommand_of_silentCall ⟨c, rs, more, hdec, hnat⟩] at ht
    cases ht

/-! A halted block (R423). -/

/-- What an act of the host other than reset keeps of a halted block. -/
def KeepsHalt (s t : State) : Prop :=
  t.ports.completion = s.ports.completion ∧ (∀ l, l ∈ statusLocs → t.peek l = s.peek l) ∧ t.spad = s.spad

theorem keepsHalt_serveAccess (a : HostAccess) (s : State) : KeepsHalt s (serveAccess a s) := by
  unfold serveAccess
  split
  · have hstep := regStep_hostWrite s a.file a.ctx a.idx a.wmask a.wdata
    exact ⟨by rw [hstep.rest], hstep.keeps_status, by rw [hstep.rest]⟩
  · exact ⟨rfl, forall_mem_statusLocs.2 ⟨rfl, rfl, rfl, rfl, rfl, rfl⟩, rfl⟩

theorem keepsHalt_serveHost {e : HostEvent} (h : ∀ d, e ≠ .reset d) (s : State) : KeepsHalt s (serveHost e s) := by
  cases e with
  | access a => exact keepsHalt_serveAccess a s
  | arenaStore addr value =>
    rw [serveHost, serveArenaStore]
    split <;> exact ⟨rfl, forall_mem_statusLocs.2 ⟨rfl, rfl, rfl, rfl, rfl, rfl⟩, rfl⟩
  | skip => exact ⟨rfl, forall_mem_statusLocs.2 ⟨rfl, rfl, rfl, rfl, rfl, rfl⟩, rfl⟩
  | reset d => exact absurd rfl (h d)

theorem inbox_serveAccess (a : HostAccess) (s : State) : (serveAccess a s).inbox = s.inbox := by
  unfold serveAccess
  split
  · rw [(regStep_hostWrite ..).rest]
  · rfl

theorem inbox_serveArenaStore (addr : Nat) (value : Byte) (s : State) :
    (serveArenaStore addr value s).inbox = s.inbox := by
  unfold serveArenaStore
  split <;> rfl

theorem inbox_serveReset (during : Option Dword) (s : State) : (serveReset during s).inbox = s.inbox := by
  unfold serveReset; dsimp only

/-- An act of the host leaves the other inputs, a skip all but the first command. -/
theorem inbox_serveHost (e : HostEvent) (s : State) :
    (serveHost e s).inbox = if e = .skip then dropCommand s.inbox else s.inbox := by
  cases e with
  | access a => exact inbox_serveAccess a s
  | arenaStore addr value => exact inbox_serveArenaStore addr value s
  | skip => rfl
  | reset d => exact inbox_serveReset d s

/-- Settles O8: a halted step does nothing or serves the first act of the host, which only reset ends the halt with. -/
theorem haltedIsAbsorbing : Obligations.HaltedIsAbsorbing := by
  intro s hhalt
  refine ⟨fun h => step_halted_none hhalt (firstHost_eq_none.mpr h), fun e rest hfirst =>
    ⟨command_mem_firstHost hfirst, _, step_halted_some hhalt hfirst, inbox_serveHost .., fun he => ?_⟩⟩
  obtain ⟨hdone, hstatus, hspad⟩ := keepsHalt_serveHost he { s with inbox := rest }
  have hkeep : ∀ l, l ∈ statusLocs → (serveHost e { s with inbox := rest }).peek l = s.peek l := fun l hl =>
    (hstatus l hl).trans (peek_withInbox ..)
  exact ⟨by rw [halted_eq_peek_status, hkeep _ (by simp [statusLocs]), ← halted_eq_peek_status, hhalt], hdone, hkeep,
    fun a => by rw [hspad]⟩

/-! Reset (70_reset_and_hazards.md). -/

/-- The arena keeps the bytes that the abandoned command could not write (R460). -/
theorem byteAt_arenaAfterReset {s : State} (hwf : s.arena.wf = true) (during : Option Dword) {a : Nat}
    (h : ∀ w i, during = some w → decodeWord s.cfg.nctx w = .ok i →
      ¬((writableSpan s i).1 ≤ a ∧ a < (writableSpan s i).1 + (writableSpan s i).2)) :
    (arenaAfterReset during s).byteAt a = s.arena.byteAt a := by
  unfold arenaAfterReset
  split
  · rfl
  · split
    · rfl
    · split
      · rfl
      next w _ _ i hdec => rw [Memory.byteAt_fill hwf, if_neg (h w i rfl hdec)]

/-- Settles O13: the status registers and the ports by their new values, the arena by the bytes reset fills. -/
theorem resetEvent : Obligations.ResetEvent := by
  intro s during rest hbox hwf
  refine ⟨_, step_host hbox, ?_⟩
  rw [serveHost, serveReset]
  -- The scratchpad is named, so that nothing below computes its bytes.
  generalize spadAfterReset _ = m
  exact ⟨forall_mem_statusLocs.2 ⟨rfl, rfl, rfl, rfl, rfl, rfl⟩, BitVec.getLsbD_zero, rfl, rfl, rfl,
    fun c => ⟨State.x_zero .., State.vf_zero ..⟩,
    fun _ h => byteAt_arenaAfterReset (s := { s with inbox := rest }) hwf during h⟩

end Sys2Proof.Machine
end
